-- ==== Sys2Proof/Word.lean ====
section
/-! DEFINITION. The bit-vector types of the machine: spec/10_state.md R11 to R14 and R25, spec/30_encoding.md R93. -/

namespace Sys2Proof

/-- One byte of storage, R50. -/
abbrev Byte := BitVec 8
/-- A halfword, 16 bits, R25 and R59. -/
abbrev Half := BitVec 16
/-- A word: the width of a general or access register, R11, R13 and R25. -/
abbrev Word := BitVec 32
/-- A doubleword: the width of a floating-point register, R14. -/
abbrev Dword := BitVec 64
/-- The width of an extended floating-point number, R14. -/
abbrev Qword := BitVec 128
/-- A register number in an R, B or X field, R93. -/
abbrev Reg := BitVec 4
/-- A half-byte, R93: the I3 field of SRP, a decimal digit or sign code. -/
abbrev Nibble := BitVec 4
/-- A mask in an M field, R93 and R106; its leftmost bit is bit 0 of the manual. -/
abbrev Mask := BitVec 4
/-- A displacement, R93. -/
abbrev Disp := BitVec 12

end Sys2Proof
end

