-- ==== Sys2Proof/Config.lean ====
section
/-! DEFINITION. What the CPU and the system fix (spec/00_scope.md R6), and the free values: constants with no body, so that
nothing can be proved about which value they take. -/

namespace Sys2Proof

/-- The parameters of R6 that a run keeps fixed. -/
structure Config where
  /-- HAS_31BIT: the 31-bit mode and BAS, BASR, BASSM, BSM, DXR exist (R3, R113). -/
  has31Bit : Bool
  /-- HAS_ESA: access registers, AR mode and the nine ESA instructions exist (R3, R113). -/
  hasEsa : Bool
  /-- STRICT_ALIGNMENT: an operand off its boundary is a Specification interruption (R60). -/
  strictAlignment : Bool
  /-- ADDR_TOP: the highest address of the program space (R50). -/
  addrTop : Nat
  /-- Host.Svc and Host.ProgramInterruption: true where BS2000's own act, which R6 leaves open; false for the defaults of D4 and
  D3. Log 44. -/
  hasServices : Bool
deriving DecidableEq, Repr

/-- The defaults of R6 (D1 to D4); ADDR_TOP is open there, and 2^31 - 1 is the largest it allows. DESIGN CHOICE, log 9. -/
def Config.default : Config :=
  { has31Bit := true, hasEsa := true, strictAlignment := true, addrTop := 2147483647,
    hasServices := false }

/-- A free byte: the result bytes that U7 and U8 leave open (spec/93_implementation_defined.md). Logs 13, 22, 23. -/
opaque Config.freeByte : Nat → Byte

/-- A free word: the registers that U8 and U9 leave open. Logs 13, 23, 24. -/
opaque Config.freeWord : Nat → Word

/-- A free condition code: the CC that U7 and U8 leave open. Logs 13, 22, 23. -/
opaque Config.freeCc : Nat → BitVec 2

/-- TOD(t) of R6: what the clock shows at a reading. D14 asks only that readings do not fall. Log 12. -/
opaque Config.todSample : Nat → Dword

/-- UnlistedOpcodeWeight of R6, R114 and R443: true where the code, which table 7.3 does not list, is a privileged
instruction (X'54'), false where it is no instruction at all (X'58'). Log 17. -/
opaque Config.unlistedPrivileged : BitVec 16 → Bool

end Sys2Proof
end

