-- ==== Sys2Proof/Syntax.lean ====
section
/-! DEFINITION. The instructions: one constructor per row of spec/opcode_table.json (spec/30_encoding.md R110), its fields
named as R93 names them. Lengths are the true lengths L, L1, L2 of R105 (field value plus 1), and the bits that R108 says are
ignored are no field. -/

namespace Sys2Proof

/-- An instruction of table 7.3. Each constructor's rule is the one the table names. -/
inductive Instr where
  /-- SPM, Set Program Mask; RR, X'04'; R281. -/
  | spm (r1 : Reg)
  /-- BALR, Branch and Link Register; RR, X'05'; R137. -/
  | balr (r1 r2 : Reg)
  /-- BCTR, Branch on Count Register; RR, X'06'; R144. -/
  | bctr (r1 r2 : Reg)
  /-- BCR, Branch on Condition Register; RR, X'07'; R142. -/
  | bcr (m1 : Mask) (r2 : Reg)
  /-- SVC, Supervisor Call; RR, X'0A'; R299. -/
  | svc (i : Byte)
  /-- BSM, Branch and Set Mode; RR, X'0B'; R146. -/
  | bsm (r1 r2 : Reg)
  /-- BASSM, Branch and Save and Set Mode; RR, X'0C'; R141. -/
  | bassm (r1 r2 : Reg)
  /-- BASR, Branch and Save Register; RR, X'0D'; R139. -/
  | basr (r1 r2 : Reg)
  /-- MVCL, Move Long; RR, X'0E'; R243. -/
  | mvcl (r1 r2 : Reg)
  /-- CLCL, Compare Logical Long; RR, X'0F'; R180. -/
  | clcl (r1 r2 : Reg)
  /-- LPR, Load Positive Register; RR, X'10'; R215. -/
  | lpr (r1 r2 : Reg)
  /-- LNR, Load Negative Register; RR, X'11'; R214. -/
  | lnr (r1 r2 : Reg)
  /-- LTR, Load and Test Register; RR, X'12'; R216. -/
  | ltr (r1 r2 : Reg)
  /-- LCR, Load Complement Register; RR, X'13'; R211. -/
  | lcr (r1 r2 : Reg)
  /-- NR, And Register; RR, X'14'; R248. -/
  | nr (r1 r2 : Reg)
  /-- CLR, Compare Logical Register; RR, X'15'; R174. -/
  | clr (r1 r2 : Reg)
  /-- OR, Or Register; RR, X'16'; R252. -/
  | or (r1 r2 : Reg)
  /-- XR, Exclusive Or Register; RR, X'17'; R316. -/
  | xr (r1 r2 : Reg)
  /-- LR, Load Register; RR, X'18'; R208. -/
  | lr (r1 r2 : Reg)
  /-- CR, Compare Register; RR, X'19'; R171. -/
  | cr (r1 r2 : Reg)
  /-- AR, Add Register; RR, X'1A'; R131. -/
  | ar (r1 r2 : Reg)
  /-- SR, Subtract Register; RR, X'1B'; R271. -/
  | sr (r1 r2 : Reg)
  /-- MR, Multiply Register; RR, X'1C'; R231. -/
  | mr (r1 r2 : Reg)
  /-- DR, Divide Register; RR, X'1D'; R201. -/
  | dr (r1 r2 : Reg)
  /-- ALR, Add Logical Register; RR, X'1E'; R134. -/
  | alr (r1 r2 : Reg)
  /-- SLR, Subtract Logical Register; RR, X'1F'; R274. -/
  | slr (r1 r2 : Reg)
  /-- LPDR, Load Positive, long; RR, X'20'; R559. -/
  | lpdr (r1 r2 : Reg)
  /-- LNDR, Load Negative, long; RR, X'21'; R557. -/
  | lndr (r1 r2 : Reg)
  /-- LTDR, Load and Test, long; RR, X'22'; R564. -/
  | ltdr (r1 r2 : Reg)
  /-- LCDR, Load Complement, long; RR, X'23'; R551. -/
  | lcdr (r1 r2 : Reg)
  /-- HDR, Halve, long; RR, X'24'; R531. -/
  | hdr (r1 r2 : Reg)
  /-- LRDR, Load Rounded, extended to long; RR, X'25'; R562. -/
  | lrdr (r1 r2 : Reg)
  /-- MXR, Multiply, extended; RR, X'26'; R572. -/
  | mxr (r1 r2 : Reg)
  /-- MXDR, Multiply, long to extended, register; RR, X'27'; R570. -/
  | mxdr (r1 r2 : Reg)
  /-- LDR, Load, long, register; RR, X'28'; R554. -/
  | ldr (r1 r2 : Reg)
  /-- CDR, Compare, long, register; RR, X'29'; R521. -/
  | cdr (r1 r2 : Reg)
  /-- ADR, Add Normalized, long, register; RR, X'2A'; R510. -/
  | adr (r1 r2 : Reg)
  /-- SDR, Subtract Normalized, long, register; RR, X'2B'; R576. -/
  | sdr (r1 r2 : Reg)
  /-- MDR, Multiply, long, register; RR, X'2C'; R568. -/
  | mdr (r1 r2 : Reg)
  /-- DDR, Divide, long, register; RR, X'2D'; R526. -/
  | ddr (r1 r2 : Reg)
  /-- AWR, Add Unnormalized, long, register; RR, X'2E'; R516. -/
  | awr (r1 r2 : Reg)
  /-- SWR, Subtract Unnormalized, long, register; RR, X'2F'; R584. -/
  | swr (r1 r2 : Reg)
  /-- LPER, Load Positive, short; RR, X'30'; R558. -/
  | lper (r1 r2 : Reg)
  /-- LNER, Load Negative, short; RR, X'31'; R556. -/
  | lner (r1 r2 : Reg)
  /-- LTER, Load and Test, short; RR, X'32'; R563. -/
  | lter (r1 r2 : Reg)
  /-- LCER, Load Complement, short; RR, X'33'; R550. -/
  | lcer (r1 r2 : Reg)
  /-- HER, Halve, short; RR, X'34'; R530. -/
  | her (r1 r2 : Reg)
  /-- LRER, Load Rounded, long to short; RR, X'35'; R561. -/
  | lrer (r1 r2 : Reg)
  /-- AXR, Add Normalized, extended; RR, X'36'; R512. -/
  | axr (r1 r2 : Reg)
  /-- SXR, Subtract Normalized, extended; RR, X'37'; R578. -/
  | sxr (r1 r2 : Reg)
  /-- LER, Load, short, register; RR, X'38'; R552. -/
  | ler (r1 r2 : Reg)
  /-- CER, Compare, short, register; RR, X'39'; R519. -/
  | cer (r1 r2 : Reg)
  /-- AER, Add Normalized, short, register; RR, X'3A'; R508. -/
  | aer (r1 r2 : Reg)
  /-- SER, Subtract Normalized, short, register; RR, X'3B'; R574. -/
  | ser (r1 r2 : Reg)
  /-- MER, Multiply, short to long, register; RR, X'3C'; R566. -/
  | mer (r1 r2 : Reg)
  /-- DER, Divide, short, register; RR, X'3D'; R524. -/
  | der (r1 r2 : Reg)
  /-- AUR, Add Unnormalized, short, register; RR, X'3E'; R514. -/
  | aur (r1 r2 : Reg)
  /-- SUR, Subtract Unnormalized, short, register; RR, X'3F'; R582. -/
  | sur (r1 r2 : Reg)
  /-- STH, Store Halfword; RX, X'40'; R287. -/
  | sth (r1 x2 b2 : Reg) (d2 : Disp)
  /-- LA, Load Address; RX, X'41'; R210. -/
  | la (r1 x2 b2 : Reg) (d2 : Disp)
  /-- STC, Store Character; RX, X'42'; R288. -/
  | stc (r1 x2 b2 : Reg) (d2 : Disp)
  /-- IC, Insert Character; RX, X'43'; R204. -/
  | ic (r1 x2 b2 : Reg) (d2 : Disp)
  /-- EX, Execute; RX, X'44'; R203. -/
  | ex (r1 x2 b2 : Reg) (d2 : Disp)
  /-- BAL, Branch and Link; RX, X'45'; R138. -/
  | bal (r1 x2 b2 : Reg) (d2 : Disp)
  /-- BCT, Branch on Count; RX, X'46'; R145. -/
  | bct (r1 x2 b2 : Reg) (d2 : Disp)
  /-- BC, Branch on Condition; RX, X'47'; R143. -/
  | bc (m1 : Mask) (x2 b2 : Reg) (d2 : Disp)
  /-- LH, Load Halfword; RX, X'48'; R212. -/
  | lh (r1 x2 b2 : Reg) (d2 : Disp)
  /-- CH, Compare Halfword; RX, X'49'; R173. -/
  | ch (r1 x2 b2 : Reg) (d2 : Disp)
  /-- AH, Add Halfword; RX, X'4A'; R133. -/
  | ah (r1 x2 b2 : Reg) (d2 : Disp)
  /-- SH, Subtract Halfword; RX, X'4B'; R273. -/
  | sh (r1 x2 b2 : Reg) (d2 : Disp)
  /-- MH, Multiply Halfword; RX, X'4C'; R234. -/
  | mh (r1 x2 b2 : Reg) (d2 : Disp)
  /-- BAS, Branch and Save; RX, X'4D'; R140. -/
  | bas (r1 x2 b2 : Reg) (d2 : Disp)
  /-- CVD, Convert to Decimal; RX, X'4E'; R184. -/
  | cvd (r1 x2 b2 : Reg) (d2 : Disp)
  /-- CVB, Convert to Binary; RX, X'4F'; R183. -/
  | cvb (r1 x2 b2 : Reg) (d2 : Disp)
  /-- ST, Store; RX, X'50'; R286. -/
  | st (r1 x2 b2 : Reg) (d2 : Disp)
  /-- LAE, Load Address Extended; RX, X'51'; R425. -/
  | lae (r1 x2 b2 : Reg) (d2 : Disp)
  /-- N, And; RX, X'54'; R249. -/
  | n (r1 x2 b2 : Reg) (d2 : Disp)
  /-- CL, Compare Logical; RX, X'55'; R175. -/
  | cl (r1 x2 b2 : Reg) (d2 : Disp)
  /-- O, Or; RX, X'56'; R253. -/
  | o (r1 x2 b2 : Reg) (d2 : Disp)
  /-- X, Exclusive Or; RX, X'57'; R317. -/
  | x (r1 x2 b2 : Reg) (d2 : Disp)
  /-- L, Load; RX, X'58'; R209. -/
  | l (r1 x2 b2 : Reg) (d2 : Disp)
  /-- C, Compare; RX, X'59'; R172. -/
  | c (r1 x2 b2 : Reg) (d2 : Disp)
  /-- A, Add; RX, X'5A'; R132. -/
  | a (r1 x2 b2 : Reg) (d2 : Disp)
  /-- S, Subtract; RX, X'5B'; R272. -/
  | s (r1 x2 b2 : Reg) (d2 : Disp)
  /-- M, Multiply; RX, X'5C'; R232. -/
  | m (r1 x2 b2 : Reg) (d2 : Disp)
  /-- D, Divide; RX, X'5D'; R202. -/
  | d (r1 x2 b2 : Reg) (d2 : Disp)
  /-- AL, Add Logical; RX, X'5E'; R135. -/
  | al (r1 x2 b2 : Reg) (d2 : Disp)
  /-- SL, Subtract Logical; RX, X'5F'; R275. -/
  | sl (r1 x2 b2 : Reg) (d2 : Disp)
  /-- STD, Store, long; RX, X'60'; R580. -/
  | std (r1 x2 b2 : Reg) (d2 : Disp)
  /-- MXD, Multiply, long to extended; RX, X'67'; R571. -/
  | mxd (r1 x2 b2 : Reg) (d2 : Disp)
  /-- LD, Load, long; RX, X'68'; R555. -/
  | ld (r1 x2 b2 : Reg) (d2 : Disp)
  /-- CD, Compare, long; RX, X'69'; R522. -/
  | cd (r1 x2 b2 : Reg) (d2 : Disp)
  /-- AD, Add Normalized, long; RX, X'6A'; R511. -/
  | ad (r1 x2 b2 : Reg) (d2 : Disp)
  /-- SD, Subtract Normalized, long; RX, X'6B'; R577. -/
  | sd (r1 x2 b2 : Reg) (d2 : Disp)
  /-- MD, Multiply, long; RX, X'6C'; R569. -/
  | md (r1 x2 b2 : Reg) (d2 : Disp)
  /-- DD, Divide, long; RX, X'6D'; R527. -/
  | dd (r1 x2 b2 : Reg) (d2 : Disp)
  /-- AW, Add Unnormalized, long; RX, X'6E'; R517. -/
  | aw (r1 x2 b2 : Reg) (d2 : Disp)
  /-- SW, Subtract Unnormalized, long; RX, X'6F'; R585. -/
  | sw (r1 x2 b2 : Reg) (d2 : Disp)
  /-- STE, Store, short; RX, X'70'; R579. -/
  | ste (r1 x2 b2 : Reg) (d2 : Disp)
  /-- LE, Load, short; RX, X'78'; R553. -/
  | le (r1 x2 b2 : Reg) (d2 : Disp)
  /-- CE, Compare, short; RX, X'79'; R520. -/
  | ce (r1 x2 b2 : Reg) (d2 : Disp)
  /-- AE, Add Normalized, short; RX, X'7A'; R509. -/
  | ae (r1 x2 b2 : Reg) (d2 : Disp)
  /-- SE, Subtract Normalized, short; RX, X'7B'; R575. -/
  | se (r1 x2 b2 : Reg) (d2 : Disp)
  /-- ME, Multiply, short to long; RX, X'7C'; R567. -/
  | me (r1 x2 b2 : Reg) (d2 : Disp)
  /-- DE, Divide, short; RX, X'7D'; R525. -/
  | de (r1 x2 b2 : Reg) (d2 : Disp)
  /-- AU, Add Unnormalized, short; RX, X'7E'; R515. -/
  | au (r1 x2 b2 : Reg) (d2 : Disp)
  /-- SU, Subtract Unnormalized, short; RX, X'7F'; R583. -/
  | su (r1 x2 b2 : Reg) (d2 : Disp)
  /-- BXH, Branch on Index High; RS, X'86'; R147. -/
  | bxh (r1 r3 b2 : Reg) (d2 : Disp)
  /-- BXLE, Branch on Index Low or Equal; RS, X'87'; R148. -/
  | bxle (r1 r3 b2 : Reg) (d2 : Disp)
  /-- SRL, Shift Right Single Logical; RS, X'88'; R285. -/
  | srl (r1 b2 : Reg) (d2 : Disp)
  /-- SLL, Shift Left Single Logical; RS, X'89'; R280. -/
  | sll (r1 b2 : Reg) (d2 : Disp)
  /-- SRA, Shift Right Single; RS, X'8A'; R282. -/
  | sra (r1 b2 : Reg) (d2 : Disp)
  /-- SLA, Shift Left Single; RS, X'8B'; R277. -/
  | sla (r1 b2 : Reg) (d2 : Disp)
  /-- SRDL, Shift Right Double Logical; RS, X'8C'; R284. -/
  | srdl (r1 b2 : Reg) (d2 : Disp)
  /-- SLDL, Shift Left Double Logical; RS, X'8D'; R279. -/
  | sldl (r1 b2 : Reg) (d2 : Disp)
  /-- SRDA, Shift Right Double; RS, X'8E'; R283. -/
  | srda (r1 b2 : Reg) (d2 : Disp)
  /-- SLDA, Shift Left Double; RS, X'8F'; R278. -/
  | slda (r1 b2 : Reg) (d2 : Disp)
  /-- STM, Store Multiple; RS, X'90'; R298. -/
  | stm (r1 r3 b2 : Reg) (d2 : Disp)
  /-- TM, Test under Mask; SI, X'91'; R311. -/
  | tm (b1 : Reg) (d1 : Disp) (i2 : Byte)
  /-- MVI, Move Immediate; SI, X'92'; R244. -/
  | mvi (b1 : Reg) (d1 : Disp) (i2 : Byte)
  /-- TS, Test and Set; S, X'93'; R314. -/
  | ts (b2 : Reg) (d2 : Disp)
  /-- NI, And Immediate; SI, X'94'; R250. -/
  | ni (b1 : Reg) (d1 : Disp) (i2 : Byte)
  /-- CLI, Compare Logical Immediate; SI, X'95'; R176. -/
  | cli (b1 : Reg) (d1 : Disp) (i2 : Byte)
  /-- OI, Or Immediate; SI, X'96'; R254. -/
  | oi (b1 : Reg) (d1 : Disp) (i2 : Byte)
  /-- XI, Exclusive Or Immediate; SI, X'97'; R318. -/
  | xi (b1 : Reg) (d1 : Disp) (i2 : Byte)
  /-- LM, Load Multiple; RS, X'98'; R213. -/
  | lm (r1 r3 b2 : Reg) (d2 : Disp)
  /-- LAM, Load Access Multiple; RS, X'9A'; R426. -/
  | lam (r1 r3 b2 : Reg) (d2 : Disp)
  /-- STAM, Store Access Multiple; RS, X'9B'; R429. -/
  | stam (r1 r3 b2 : Reg) (d2 : Disp)
  /-- MC, Monitor Call; SI, X'AF'; R233. -/
  | mc (b1 : Reg) (d1 : Disp) (i2 : Byte)
  /-- STCK, Store Clock; S, X'B205'; R296. -/
  | stck (b2 : Reg) (d2 : Disp)
  /-- SAC, Set Address Space Control; S, X'B219'; R428. -/
  | sac (b2 : Reg) (d2 : Disp)
  /-- IPM, Insert Program Mask; RRE, X'B222'; R207. -/
  | ipm (r1 : Reg)
  /-- IAC, Insert Address Space Control; RRE, X'B224'; R424. -/
  | iac (r1 : Reg)
  /-- DXR, Divide, extended; RRE, X'B22D'; R528. -/
  | dxr (r1 r2 : Reg)
  /-- TAR, Test Access Register; RRE, X'B24C'; R430. -/
  | tar (r1 r2 : Reg)
  /-- CPYA, Copy Access Register; RRE, X'B24D'; R421. -/
  | cpya (r1 r2 : Reg)
  /-- SAR, Set Access Register; RRE, X'B24E'; R427. -/
  | sar (r1 r2 : Reg)
  /-- EAR, Extract Access Register; RRE, X'B24F'; R422. -/
  | ear (r1 r2 : Reg)
  /-- CS, Compare and Swap; RS, X'BA'; R181. -/
  | cs (r1 r3 b2 : Reg) (d2 : Disp)
  /-- CDS, Compare Double and Swap; RS, X'BB'; R182. -/
  | cds (r1 r3 b2 : Reg) (d2 : Disp)
  /-- CLM, Compare Logical under Mask; RS, X'BD'; R178. -/
  | clm (r1 : Reg) (m3 : Mask) (b2 : Reg) (d2 : Disp)
  /-- STCM, Store Characters under Mask; RS, X'BE'; R297. -/
  | stcm (r1 : Reg) (m3 : Mask) (b2 : Reg) (d2 : Disp)
  /-- ICM, Insert Characters under Mask; RS, X'BF'; R205. -/
  | icm (r1 : Reg) (m3 : Mask) (b2 : Reg) (d2 : Disp)
  /-- MVN, Move Numerics; SS, X'D1'; R245. -/
  | mvn (l : Nat) (b1 : Reg) (d1 : Disp) (b2 : Reg) (d2 : Disp)
  /-- MVC, Move Characters; SS, X'D2'; R235. -/
  | mvc (l : Nat) (b1 : Reg) (d1 : Disp) (b2 : Reg) (d2 : Disp)
  /-- MVZ, Move Zones; SS, X'D3'; R247. -/
  | mvz (l : Nat) (b1 : Reg) (d1 : Disp) (b2 : Reg) (d2 : Disp)
  /-- NC, And Characters; SS, X'D4'; R251. -/
  | nc (l : Nat) (b1 : Reg) (d1 : Disp) (b2 : Reg) (d2 : Disp)
  /-- CLC, Compare Logical Characters; SS, X'D5'; R177. -/
  | clc (l : Nat) (b1 : Reg) (d1 : Disp) (b2 : Reg) (d2 : Disp)
  /-- OC, Or Characters; SS, X'D6'; R255. -/
  | oc (l : Nat) (b1 : Reg) (d1 : Disp) (b2 : Reg) (d2 : Disp)
  /-- XC, Exclusive Or Characters; SS, X'D7'; R319. -/
  | xc (l : Nat) (b1 : Reg) (d1 : Disp) (b2 : Reg) (d2 : Disp)
  /-- TR, Translate; SS, X'DC'; R312. -/
  | tr (l : Nat) (b1 : Reg) (d1 : Disp) (b2 : Reg) (d2 : Disp)
  /-- TRT, Translate and Test; SS, X'DD'; R313. -/
  | trt (l : Nat) (b1 : Reg) (d1 : Disp) (b2 : Reg) (d2 : Disp)
  /-- ED, Edit; SS, X'DE'; R338. -/
  | ed (l : Nat) (b1 : Reg) (d1 : Disp) (b2 : Reg) (d2 : Disp)
  /-- EDMK, Edit and Mark; SS, X'DF'; R339. -/
  | edmk (l : Nat) (b1 : Reg) (d1 : Disp) (b2 : Reg) (d2 : Disp)
  /-- SRP, Shift and Round Decimal; SS, X'F0'; R342. -/
  | srp (l1 : Nat) (b1 : Reg) (d1 : Disp) (b2 : Reg) (d2 : Disp) (i3 : Nibble)
  /-- MVO, Move with Offset; SS, X'F1'; R246. -/
  | mvo (l1 l2 : Nat) (b1 : Reg) (d1 : Disp) (b2 : Reg) (d2 : Disp)
  /-- PACK, Pack; SS, X'F2'; R256. -/
  | pack (l1 l2 : Nat) (b1 : Reg) (d1 : Disp) (b2 : Reg) (d2 : Disp)
  /-- UNPK, Unpack; SS, X'F3'; R315. -/
  | unpk (l1 l2 : Nat) (b1 : Reg) (d1 : Disp) (b2 : Reg) (d2 : Disp)
  /-- ZAP, Zero and Add; SS, X'F8'; R343. -/
  | zap (l1 l2 : Nat) (b1 : Reg) (d1 : Disp) (b2 : Reg) (d2 : Disp)
  /-- CP, Compare Decimal; SS, X'F9'; R336. -/
  | cp (l1 l2 : Nat) (b1 : Reg) (d1 : Disp) (b2 : Reg) (d2 : Disp)
  /-- AP, Add Decimal; SS, X'FA'; R335. -/
  | ap (l1 l2 : Nat) (b1 : Reg) (d1 : Disp) (b2 : Reg) (d2 : Disp)
  /-- SP, Subtract Decimal; SS, X'FB'; R341. -/
  | sp (l1 l2 : Nat) (b1 : Reg) (d1 : Disp) (b2 : Reg) (d2 : Disp)
  /-- MP, Multiply Decimal; SS, X'FC'; R340. -/
  | mp (l1 l2 : Nat) (b1 : Reg) (d1 : Disp) (b2 : Reg) (d2 : Disp)
  /-- DP, Divide Decimal; SS, X'FD'; R337. -/
  | dp (l1 l2 : Nat) (b1 : Reg) (d1 : Disp) (b2 : Reg) (d2 : Disp)
deriving DecidableEq, Repr

end Sys2Proof
end

