-- ==== Sys2Proof/WellFormed.lean ====
section
/-! DEFINITION. Which terms of Instr an encoding can stand for: every field but a length is as wide as its type; a length of an
SS instruction is 1 to 256 (R100) or 1 to 16 (R101, R102). -/

namespace Sys2Proof

/-- The lengths an 8-bit L field can hold, R100. -/
def lenOk (l : Nat) : Bool := decide (1 ≤ l) && decide (l ≤ 256)

/-- The lengths a 4-bit L1 or L2 field can hold, R101 and R102. -/
def lenOk4 (l : Nat) : Bool := decide (1 ≤ l) && decide (l ≤ 16)

/-- A well-formed instruction: one that some encoding of R94 to R102 gives. -/
def Instr.wf : Instr → Bool
  | .spm _ => true
  | .balr _ _ => true
  | .bctr _ _ => true
  | .bcr _ _ => true
  | .svc _ => true
  | .bsm _ _ => true
  | .bassm _ _ => true
  | .basr _ _ => true
  | .mvcl _ _ => true
  | .clcl _ _ => true
  | .lpr _ _ => true
  | .lnr _ _ => true
  | .ltr _ _ => true
  | .lcr _ _ => true
  | .nr _ _ => true
  | .clr _ _ => true
  | .or _ _ => true
  | .xr _ _ => true
  | .lr _ _ => true
  | .cr _ _ => true
  | .ar _ _ => true
  | .sr _ _ => true
  | .mr _ _ => true
  | .dr _ _ => true
  | .alr _ _ => true
  | .slr _ _ => true
  | .lpdr _ _ => true
  | .lndr _ _ => true
  | .ltdr _ _ => true
  | .lcdr _ _ => true
  | .hdr _ _ => true
  | .lrdr _ _ => true
  | .mxr _ _ => true
  | .mxdr _ _ => true
  | .ldr _ _ => true
  | .cdr _ _ => true
  | .adr _ _ => true
  | .sdr _ _ => true
  | .mdr _ _ => true
  | .ddr _ _ => true
  | .awr _ _ => true
  | .swr _ _ => true
  | .lper _ _ => true
  | .lner _ _ => true
  | .lter _ _ => true
  | .lcer _ _ => true
  | .her _ _ => true
  | .lrer _ _ => true
  | .axr _ _ => true
  | .sxr _ _ => true
  | .ler _ _ => true
  | .cer _ _ => true
  | .aer _ _ => true
  | .ser _ _ => true
  | .mer _ _ => true
  | .der _ _ => true
  | .aur _ _ => true
  | .sur _ _ => true
  | .sth _ _ _ _ => true
  | .la _ _ _ _ => true
  | .stc _ _ _ _ => true
  | .ic _ _ _ _ => true
  | .ex _ _ _ _ => true
  | .bal _ _ _ _ => true
  | .bct _ _ _ _ => true
  | .bc _ _ _ _ => true
  | .lh _ _ _ _ => true
  | .ch _ _ _ _ => true
  | .ah _ _ _ _ => true
  | .sh _ _ _ _ => true
  | .mh _ _ _ _ => true
  | .bas _ _ _ _ => true
  | .cvd _ _ _ _ => true
  | .cvb _ _ _ _ => true
  | .st _ _ _ _ => true
  | .lae _ _ _ _ => true
  | .n _ _ _ _ => true
  | .cl _ _ _ _ => true
  | .o _ _ _ _ => true
  | .x _ _ _ _ => true
  | .l _ _ _ _ => true
  | .c _ _ _ _ => true
  | .a _ _ _ _ => true
  | .s _ _ _ _ => true
  | .m _ _ _ _ => true
  | .d _ _ _ _ => true
  | .al _ _ _ _ => true
  | .sl _ _ _ _ => true
  | .std _ _ _ _ => true
  | .mxd _ _ _ _ => true
  | .ld _ _ _ _ => true
  | .cd _ _ _ _ => true
  | .ad _ _ _ _ => true
  | .sd _ _ _ _ => true
  | .md _ _ _ _ => true
  | .dd _ _ _ _ => true
  | .aw _ _ _ _ => true
  | .sw _ _ _ _ => true
  | .ste _ _ _ _ => true
  | .le _ _ _ _ => true
  | .ce _ _ _ _ => true
  | .ae _ _ _ _ => true
  | .se _ _ _ _ => true
  | .me _ _ _ _ => true
  | .de _ _ _ _ => true
  | .au _ _ _ _ => true
  | .su _ _ _ _ => true
  | .bxh _ _ _ _ => true
  | .bxle _ _ _ _ => true
  | .srl _ _ _ => true
  | .sll _ _ _ => true
  | .sra _ _ _ => true
  | .sla _ _ _ => true
  | .srdl _ _ _ => true
  | .sldl _ _ _ => true
  | .srda _ _ _ => true
  | .slda _ _ _ => true
  | .stm _ _ _ _ => true
  | .tm _ _ _ => true
  | .mvi _ _ _ => true
  | .ts _ _ => true
  | .ni _ _ _ => true
  | .cli _ _ _ => true
  | .oi _ _ _ => true
  | .xi _ _ _ => true
  | .lm _ _ _ _ => true
  | .lam _ _ _ _ => true
  | .stam _ _ _ _ => true
  | .mc _ _ _ => true
  | .stck _ _ => true
  | .sac _ _ => true
  | .ipm _ => true
  | .iac _ => true
  | .dxr _ _ => true
  | .tar _ _ => true
  | .cpya _ _ => true
  | .sar _ _ => true
  | .ear _ _ => true
  | .cs _ _ _ _ => true
  | .cds _ _ _ _ => true
  | .clm _ _ _ _ => true
  | .stcm _ _ _ _ => true
  | .icm _ _ _ _ => true
  | .mvn n1 _ _ _ _ => lenOk n1
  | .mvc n1 _ _ _ _ => lenOk n1
  | .mvz n1 _ _ _ _ => lenOk n1
  | .nc n1 _ _ _ _ => lenOk n1
  | .clc n1 _ _ _ _ => lenOk n1
  | .oc n1 _ _ _ _ => lenOk n1
  | .xc n1 _ _ _ _ => lenOk n1
  | .tr n1 _ _ _ _ => lenOk n1
  | .trt n1 _ _ _ _ => lenOk n1
  | .ed n1 _ _ _ _ => lenOk n1
  | .edmk n1 _ _ _ _ => lenOk n1
  | .srp n1 _ _ _ _ _ => lenOk4 n1
  | .mvo n1 n2 _ _ _ _ => lenOk4 n1 && lenOk4 n2
  | .pack n1 n2 _ _ _ _ => lenOk4 n1 && lenOk4 n2
  | .unpk n1 n2 _ _ _ _ => lenOk4 n1 && lenOk4 n2
  | .zap n1 n2 _ _ _ _ => lenOk4 n1 && lenOk4 n2
  | .cp n1 n2 _ _ _ _ => lenOk4 n1 && lenOk4 n2
  | .ap n1 n2 _ _ _ _ => lenOk4 n1 && lenOk4 n2
  | .sp n1 n2 _ _ _ _ => lenOk4 n1 && lenOk4 n2
  | .mp n1 n2 _ _ _ _ => lenOk4 n1 && lenOk4 n2
  | .dp n1 n2 _ _ _ _ => lenOk4 n1 && lenOk4 n2

end Sys2Proof
end

