-- ==== Sys2Proof/Decode.lean ====
section
/-! DEFINITION. Decoding (spec/30_encoding.md R92 to R102, R108, R110, R115), total on any bytes, and the encoder written from the
same tables. -/

namespace Sys2Proof

/-- Why the decoder refuses. -/
inductive DecodeError where
  /-- The operation code (one byte, or two after X'B2', R115) is not in table 7.3: R114 gives the interruption. -/
  | unlistedOpcode (op : BitVec 16)
  /-- Fewer bytes than R92 asks for. The fetch never hands such bytes to the decoder. -/
  | truncated
deriving DecidableEq, Repr

/-- The left half-byte, bits 0 to 3 of the manual (R7). -/
def hiNibble (b : Byte) : Nibble := b.extractLsb' 4 4

/-- The right half-byte, bits 4 to 7 of the manual (R7). -/
def loNibble (b : Byte) : Nibble := b.extractLsb' 0 4

/-- Two half-bytes as one byte, the left one more significant. -/
def nibbles (hi lo : Nibble) : Byte := hi ++ lo

/-- The displacement in the low 12 bits of a B and D halfword, R96. -/
def dispOf (b c : Byte) : Disp := loNibble b ++ c

/-- The B and D halfword of R96 to R102 as two bytes. -/
def baseDisp (b : Reg) (d : Disp) : List Byte := [nibbles b (d.extractLsb' 8 4), d.extractLsb' 0 8]

/-- The length of an instruction by the first two bits of its operation code, R92. -/
def ilen (b0 : Byte) : Nat := if b0.toNat < 64 then 2 else if b0.toNat < 192 then 4 else 6

/-- Type RR, R94; SPM ignores bits 12 to 15, R108. -/
def decodeRR (b0 b1 : Byte) : Option Instr :=
  match b0.toNat with
  | 0x04 => some (.spm (hiNibble b1))
  | 0x05 => some (.balr (hiNibble b1) (loNibble b1))
  | 0x06 => some (.bctr (hiNibble b1) (loNibble b1))
  | 0x07 => some (.bcr (hiNibble b1) (loNibble b1))
  | 0x0A => some (.svc b1)
  | 0x0B => some (.bsm (hiNibble b1) (loNibble b1))
  | 0x0C => some (.bassm (hiNibble b1) (loNibble b1))
  | 0x0D => some (.basr (hiNibble b1) (loNibble b1))
  | 0x0E => some (.mvcl (hiNibble b1) (loNibble b1))
  | 0x0F => some (.clcl (hiNibble b1) (loNibble b1))
  | 0x10 => some (.lpr (hiNibble b1) (loNibble b1))
  | 0x11 => some (.lnr (hiNibble b1) (loNibble b1))
  | 0x12 => some (.ltr (hiNibble b1) (loNibble b1))
  | 0x13 => some (.lcr (hiNibble b1) (loNibble b1))
  | 0x14 => some (.nr (hiNibble b1) (loNibble b1))
  | 0x15 => some (.clr (hiNibble b1) (loNibble b1))
  | 0x16 => some (.or (hiNibble b1) (loNibble b1))
  | 0x17 => some (.xr (hiNibble b1) (loNibble b1))
  | 0x18 => some (.lr (hiNibble b1) (loNibble b1))
  | 0x19 => some (.cr (hiNibble b1) (loNibble b1))
  | 0x1A => some (.ar (hiNibble b1) (loNibble b1))
  | 0x1B => some (.sr (hiNibble b1) (loNibble b1))
  | 0x1C => some (.mr (hiNibble b1) (loNibble b1))
  | 0x1D => some (.dr (hiNibble b1) (loNibble b1))
  | 0x1E => some (.alr (hiNibble b1) (loNibble b1))
  | 0x1F => some (.slr (hiNibble b1) (loNibble b1))
  | 0x20 => some (.lpdr (hiNibble b1) (loNibble b1))
  | 0x21 => some (.lndr (hiNibble b1) (loNibble b1))
  | 0x22 => some (.ltdr (hiNibble b1) (loNibble b1))
  | 0x23 => some (.lcdr (hiNibble b1) (loNibble b1))
  | 0x24 => some (.hdr (hiNibble b1) (loNibble b1))
  | 0x25 => some (.lrdr (hiNibble b1) (loNibble b1))
  | 0x26 => some (.mxr (hiNibble b1) (loNibble b1))
  | 0x27 => some (.mxdr (hiNibble b1) (loNibble b1))
  | 0x28 => some (.ldr (hiNibble b1) (loNibble b1))
  | 0x29 => some (.cdr (hiNibble b1) (loNibble b1))
  | 0x2A => some (.adr (hiNibble b1) (loNibble b1))
  | 0x2B => some (.sdr (hiNibble b1) (loNibble b1))
  | 0x2C => some (.mdr (hiNibble b1) (loNibble b1))
  | 0x2D => some (.ddr (hiNibble b1) (loNibble b1))
  | 0x2E => some (.awr (hiNibble b1) (loNibble b1))
  | 0x2F => some (.swr (hiNibble b1) (loNibble b1))
  | 0x30 => some (.lper (hiNibble b1) (loNibble b1))
  | 0x31 => some (.lner (hiNibble b1) (loNibble b1))
  | 0x32 => some (.lter (hiNibble b1) (loNibble b1))
  | 0x33 => some (.lcer (hiNibble b1) (loNibble b1))
  | 0x34 => some (.her (hiNibble b1) (loNibble b1))
  | 0x35 => some (.lrer (hiNibble b1) (loNibble b1))
  | 0x36 => some (.axr (hiNibble b1) (loNibble b1))
  | 0x37 => some (.sxr (hiNibble b1) (loNibble b1))
  | 0x38 => some (.ler (hiNibble b1) (loNibble b1))
  | 0x39 => some (.cer (hiNibble b1) (loNibble b1))
  | 0x3A => some (.aer (hiNibble b1) (loNibble b1))
  | 0x3B => some (.ser (hiNibble b1) (loNibble b1))
  | 0x3C => some (.mer (hiNibble b1) (loNibble b1))
  | 0x3D => some (.der (hiNibble b1) (loNibble b1))
  | 0x3E => some (.aur (hiNibble b1) (loNibble b1))
  | 0x3F => some (.sur (hiNibble b1) (loNibble b1))
  | _ => none

/-- Type RX, R96. -/
def decodeRX (b0 b1 b2 b3 : Byte) : Option Instr :=
  match b0.toNat with
  | 0x40 => some (.sth (hiNibble b1) (loNibble b1) (hiNibble b2) (dispOf b2 b3))
  | 0x41 => some (.la (hiNibble b1) (loNibble b1) (hiNibble b2) (dispOf b2 b3))
  | 0x42 => some (.stc (hiNibble b1) (loNibble b1) (hiNibble b2) (dispOf b2 b3))
  | 0x43 => some (.ic (hiNibble b1) (loNibble b1) (hiNibble b2) (dispOf b2 b3))
  | 0x44 => some (.ex (hiNibble b1) (loNibble b1) (hiNibble b2) (dispOf b2 b3))
  | 0x45 => some (.bal (hiNibble b1) (loNibble b1) (hiNibble b2) (dispOf b2 b3))
  | 0x46 => some (.bct (hiNibble b1) (loNibble b1) (hiNibble b2) (dispOf b2 b3))
  | 0x47 => some (.bc (hiNibble b1) (loNibble b1) (hiNibble b2) (dispOf b2 b3))
  | 0x48 => some (.lh (hiNibble b1) (loNibble b1) (hiNibble b2) (dispOf b2 b3))
  | 0x49 => some (.ch (hiNibble b1) (loNibble b1) (hiNibble b2) (dispOf b2 b3))
  | 0x4A => some (.ah (hiNibble b1) (loNibble b1) (hiNibble b2) (dispOf b2 b3))
  | 0x4B => some (.sh (hiNibble b1) (loNibble b1) (hiNibble b2) (dispOf b2 b3))
  | 0x4C => some (.mh (hiNibble b1) (loNibble b1) (hiNibble b2) (dispOf b2 b3))
  | 0x4D => some (.bas (hiNibble b1) (loNibble b1) (hiNibble b2) (dispOf b2 b3))
  | 0x4E => some (.cvd (hiNibble b1) (loNibble b1) (hiNibble b2) (dispOf b2 b3))
  | 0x4F => some (.cvb (hiNibble b1) (loNibble b1) (hiNibble b2) (dispOf b2 b3))
  | 0x50 => some (.st (hiNibble b1) (loNibble b1) (hiNibble b2) (dispOf b2 b3))
  | 0x51 => some (.lae (hiNibble b1) (loNibble b1) (hiNibble b2) (dispOf b2 b3))
  | 0x54 => some (.n (hiNibble b1) (loNibble b1) (hiNibble b2) (dispOf b2 b3))
  | 0x55 => some (.cl (hiNibble b1) (loNibble b1) (hiNibble b2) (dispOf b2 b3))
  | 0x56 => some (.o (hiNibble b1) (loNibble b1) (hiNibble b2) (dispOf b2 b3))
  | 0x57 => some (.x (hiNibble b1) (loNibble b1) (hiNibble b2) (dispOf b2 b3))
  | 0x58 => some (.l (hiNibble b1) (loNibble b1) (hiNibble b2) (dispOf b2 b3))
  | 0x59 => some (.c (hiNibble b1) (loNibble b1) (hiNibble b2) (dispOf b2 b3))
  | 0x5A => some (.a (hiNibble b1) (loNibble b1) (hiNibble b2) (dispOf b2 b3))
  | 0x5B => some (.s (hiNibble b1) (loNibble b1) (hiNibble b2) (dispOf b2 b3))
  | 0x5C => some (.m (hiNibble b1) (loNibble b1) (hiNibble b2) (dispOf b2 b3))
  | 0x5D => some (.d (hiNibble b1) (loNibble b1) (hiNibble b2) (dispOf b2 b3))
  | 0x5E => some (.al (hiNibble b1) (loNibble b1) (hiNibble b2) (dispOf b2 b3))
  | 0x5F => some (.sl (hiNibble b1) (loNibble b1) (hiNibble b2) (dispOf b2 b3))
  | 0x60 => some (.std (hiNibble b1) (loNibble b1) (hiNibble b2) (dispOf b2 b3))
  | 0x67 => some (.mxd (hiNibble b1) (loNibble b1) (hiNibble b2) (dispOf b2 b3))
  | 0x68 => some (.ld (hiNibble b1) (loNibble b1) (hiNibble b2) (dispOf b2 b3))
  | 0x69 => some (.cd (hiNibble b1) (loNibble b1) (hiNibble b2) (dispOf b2 b3))
  | 0x6A => some (.ad (hiNibble b1) (loNibble b1) (hiNibble b2) (dispOf b2 b3))
  | 0x6B => some (.sd (hiNibble b1) (loNibble b1) (hiNibble b2) (dispOf b2 b3))
  | 0x6C => some (.md (hiNibble b1) (loNibble b1) (hiNibble b2) (dispOf b2 b3))
  | 0x6D => some (.dd (hiNibble b1) (loNibble b1) (hiNibble b2) (dispOf b2 b3))
  | 0x6E => some (.aw (hiNibble b1) (loNibble b1) (hiNibble b2) (dispOf b2 b3))
  | 0x6F => some (.sw (hiNibble b1) (loNibble b1) (hiNibble b2) (dispOf b2 b3))
  | 0x70 => some (.ste (hiNibble b1) (loNibble b1) (hiNibble b2) (dispOf b2 b3))
  | 0x78 => some (.le (hiNibble b1) (loNibble b1) (hiNibble b2) (dispOf b2 b3))
  | 0x79 => some (.ce (hiNibble b1) (loNibble b1) (hiNibble b2) (dispOf b2 b3))
  | 0x7A => some (.ae (hiNibble b1) (loNibble b1) (hiNibble b2) (dispOf b2 b3))
  | 0x7B => some (.se (hiNibble b1) (loNibble b1) (hiNibble b2) (dispOf b2 b3))
  | 0x7C => some (.me (hiNibble b1) (loNibble b1) (hiNibble b2) (dispOf b2 b3))
  | 0x7D => some (.de (hiNibble b1) (loNibble b1) (hiNibble b2) (dispOf b2 b3))
  | 0x7E => some (.au (hiNibble b1) (loNibble b1) (hiNibble b2) (dispOf b2 b3))
  | 0x7F => some (.su (hiNibble b1) (loNibble b1) (hiNibble b2) (dispOf b2 b3))
  | _ => none

/-- The operation codes of two bytes, X'B2' and the byte b1: types RRE (R95) and S (R99). Bits 16 to 23 of RRE, and bits 28 to
31 of IPM and IAC, are ignored, R108. -/
def decodeB2 (b1 b2 b3 : Byte) : Option Instr :=
  match b1.toNat with
  | 0x05 => some (.stck (hiNibble b2) (dispOf b2 b3))
  | 0x19 => some (.sac (hiNibble b2) (dispOf b2 b3))
  | 0x22 => some (.ipm (hiNibble b3))
  | 0x24 => some (.iac (hiNibble b3))
  | 0x2D => some (.dxr (hiNibble b3) (loNibble b3))
  | 0x4C => some (.tar (hiNibble b3) (loNibble b3))
  | 0x4D => some (.cpya (hiNibble b3) (loNibble b3))
  | 0x4E => some (.sar (hiNibble b3) (loNibble b3))
  | 0x4F => some (.ear (hiNibble b3) (loNibble b3))
  | _ => none

/-- Types RS (R97) and SI (R98), TS (R99), and the codes that begin with X'B2'. The shifts ignore bits 12 to 15 and TS bits 8
to 15, R108. -/
def decodeRS (b0 b1 b2 b3 : Byte) : Option Instr :=
  match b0.toNat with
  | 0x86 => some (.bxh (hiNibble b1) (loNibble b1) (hiNibble b2) (dispOf b2 b3))
  | 0x87 => some (.bxle (hiNibble b1) (loNibble b1) (hiNibble b2) (dispOf b2 b3))
  | 0x88 => some (.srl (hiNibble b1) (hiNibble b2) (dispOf b2 b3))
  | 0x89 => some (.sll (hiNibble b1) (hiNibble b2) (dispOf b2 b3))
  | 0x8A => some (.sra (hiNibble b1) (hiNibble b2) (dispOf b2 b3))
  | 0x8B => some (.sla (hiNibble b1) (hiNibble b2) (dispOf b2 b3))
  | 0x8C => some (.srdl (hiNibble b1) (hiNibble b2) (dispOf b2 b3))
  | 0x8D => some (.sldl (hiNibble b1) (hiNibble b2) (dispOf b2 b3))
  | 0x8E => some (.srda (hiNibble b1) (hiNibble b2) (dispOf b2 b3))
  | 0x8F => some (.slda (hiNibble b1) (hiNibble b2) (dispOf b2 b3))
  | 0x90 => some (.stm (hiNibble b1) (loNibble b1) (hiNibble b2) (dispOf b2 b3))
  | 0x91 => some (.tm (hiNibble b2) (dispOf b2 b3) b1)
  | 0x92 => some (.mvi (hiNibble b2) (dispOf b2 b3) b1)
  | 0x93 => some (.ts (hiNibble b2) (dispOf b2 b3))
  | 0x94 => some (.ni (hiNibble b2) (dispOf b2 b3) b1)
  | 0x95 => some (.cli (hiNibble b2) (dispOf b2 b3) b1)
  | 0x96 => some (.oi (hiNibble b2) (dispOf b2 b3) b1)
  | 0x97 => some (.xi (hiNibble b2) (dispOf b2 b3) b1)
  | 0x98 => some (.lm (hiNibble b1) (loNibble b1) (hiNibble b2) (dispOf b2 b3))
  | 0x9A => some (.lam (hiNibble b1) (loNibble b1) (hiNibble b2) (dispOf b2 b3))
  | 0x9B => some (.stam (hiNibble b1) (loNibble b1) (hiNibble b2) (dispOf b2 b3))
  | 0xAF => some (.mc (hiNibble b2) (dispOf b2 b3) b1)
  | 0xBA => some (.cs (hiNibble b1) (loNibble b1) (hiNibble b2) (dispOf b2 b3))
  | 0xBB => some (.cds (hiNibble b1) (loNibble b1) (hiNibble b2) (dispOf b2 b3))
  | 0xBD => some (.clm (hiNibble b1) (loNibble b1) (hiNibble b2) (dispOf b2 b3))
  | 0xBE => some (.stcm (hiNibble b1) (loNibble b1) (hiNibble b2) (dispOf b2 b3))
  | 0xBF => some (.icm (hiNibble b1) (loNibble b1) (hiNibble b2) (dispOf b2 b3))
  | 0xB2 => decodeB2 b1 b2 b3
  | _ => none

/-- Type SS with one length (R100), with two (R101), and SRP (R102). -/
def decodeSS (b0 b1 b2 b3 b4 b5 : Byte) : Option Instr :=
  match b0.toNat with
  | 0xD1 => some (.mvn (b1.toNat + 1) (hiNibble b2) (dispOf b2 b3) (hiNibble b4) (dispOf b4 b5))
  | 0xD2 => some (.mvc (b1.toNat + 1) (hiNibble b2) (dispOf b2 b3) (hiNibble b4) (dispOf b4 b5))
  | 0xD3 => some (.mvz (b1.toNat + 1) (hiNibble b2) (dispOf b2 b3) (hiNibble b4) (dispOf b4 b5))
  | 0xD4 => some (.nc (b1.toNat + 1) (hiNibble b2) (dispOf b2 b3) (hiNibble b4) (dispOf b4 b5))
  | 0xD5 => some (.clc (b1.toNat + 1) (hiNibble b2) (dispOf b2 b3) (hiNibble b4) (dispOf b4 b5))
  | 0xD6 => some (.oc (b1.toNat + 1) (hiNibble b2) (dispOf b2 b3) (hiNibble b4) (dispOf b4 b5))
  | 0xD7 => some (.xc (b1.toNat + 1) (hiNibble b2) (dispOf b2 b3) (hiNibble b4) (dispOf b4 b5))
  | 0xDC => some (.tr (b1.toNat + 1) (hiNibble b2) (dispOf b2 b3) (hiNibble b4) (dispOf b4 b5))
  | 0xDD => some (.trt (b1.toNat + 1) (hiNibble b2) (dispOf b2 b3) (hiNibble b4) (dispOf b4 b5))
  | 0xDE => some (.ed (b1.toNat + 1) (hiNibble b2) (dispOf b2 b3) (hiNibble b4) (dispOf b4 b5))
  | 0xDF => some (.edmk (b1.toNat + 1) (hiNibble b2) (dispOf b2 b3) (hiNibble b4) (dispOf b4 b5))
  | 0xF0 => some (.srp ((hiNibble b1).toNat + 1) (hiNibble b2) (dispOf b2 b3) (hiNibble b4) (dispOf b4 b5) (loNibble b1))
  | 0xF1 => some (.mvo ((hiNibble b1).toNat + 1) ((loNibble b1).toNat + 1) (hiNibble b2) (dispOf b2 b3) (hiNibble b4) (dispOf b4 b5))
  | 0xF2 => some (.pack ((hiNibble b1).toNat + 1) ((loNibble b1).toNat + 1) (hiNibble b2) (dispOf b2 b3) (hiNibble b4) (dispOf b4 b5))
  | 0xF3 => some (.unpk ((hiNibble b1).toNat + 1) ((loNibble b1).toNat + 1) (hiNibble b2) (dispOf b2 b3) (hiNibble b4) (dispOf b4 b5))
  | 0xF8 => some (.zap ((hiNibble b1).toNat + 1) ((loNibble b1).toNat + 1) (hiNibble b2) (dispOf b2 b3) (hiNibble b4) (dispOf b4 b5))
  | 0xF9 => some (.cp ((hiNibble b1).toNat + 1) ((loNibble b1).toNat + 1) (hiNibble b2) (dispOf b2 b3) (hiNibble b4) (dispOf b4 b5))
  | 0xFA => some (.ap ((hiNibble b1).toNat + 1) ((loNibble b1).toNat + 1) (hiNibble b2) (dispOf b2 b3) (hiNibble b4) (dispOf b4 b5))
  | 0xFB => some (.sp ((hiNibble b1).toNat + 1) ((loNibble b1).toNat + 1) (hiNibble b2) (dispOf b2 b3) (hiNibble b4) (dispOf b4 b5))
  | 0xFC => some (.mp ((hiNibble b1).toNat + 1) ((loNibble b1).toNat + 1) (hiNibble b2) (dispOf b2 b3) (hiNibble b4) (dispOf b4 b5))
  | 0xFD => some (.dp ((hiNibble b1).toNat + 1) ((loNibble b1).toNat + 1) (hiNibble b2) (dispOf b2 b3) (hiNibble b4) (dispOf b4 b5))
  | _ => none

/-- What R115 looks up in the table: the first byte, or the first two where the first is X'B2'. -/
def opcodeOf (b0 b1 : Byte) : BitVec 16 := if b0.toNat = 178 then b0 ++ b1 else b0.zeroExtend 16

/-- The decoder's answer, with the bytes that follow. -/
def decoded (op : BitVec 16) (i : Option Instr) (rest : List Byte) : Except DecodeError (Instr × List Byte) :=
  match i with
  | some i => .ok (i, rest)
  | none => .error (.unlistedOpcode op)

/-- R115: the instruction at the head of the bytes, and the bytes after it. Which optional group the CPU has (R113) is checked
by the meanings, for it depends on the CPU and not on the bytes. -/
def decode (bs : List Byte) : Except DecodeError (Instr × List Byte) :=
  match bs with
  | b0 :: b1 :: rest2 =>
    if b0.toNat < 64 then decoded (opcodeOf b0 b1) (decodeRR b0 b1) rest2
    else
      match rest2 with
      | b2 :: b3 :: rest4 =>
        if b0.toNat < 128 then decoded (opcodeOf b0 b1) (decodeRX b0 b1 b2 b3) rest4
        else if b0.toNat < 192 then decoded (opcodeOf b0 b1) (decodeRS b0 b1 b2 b3) rest4
        else
          match rest4 with
          | b4 :: b5 :: rest6 => decoded (opcodeOf b0 b1) (decodeSS b0 b1 b2 b3 b4 b5) rest6
          | _ => .error .truncated
      | _ => .error .truncated
  | _ => .error .truncated

/-- An 8-bit length field: the length minus 1, R100. -/
def lenField (l : Nat) : Byte := BitVec.ofNat 8 (l - 1)

/-- A 4-bit length field: the length minus 1, R101. -/
def lenField4 (l : Nat) : Nibble := BitVec.ofNat 4 (l - 1)

/-- The words of an instruction, as its bytes; the ignored bits of R108 are zero. -/
def encode : Instr → List Byte
  | .spm r1 => [0x04#8, nibbles r1 0]
  | .balr r1 r2 => [0x05#8, nibbles r1 r2]
  | .bctr r1 r2 => [0x06#8, nibbles r1 r2]
  | .bcr m1 r2 => [0x07#8, nibbles m1 r2]
  | .svc i => [0x0A#8, i]
  | .bsm r1 r2 => [0x0B#8, nibbles r1 r2]
  | .bassm r1 r2 => [0x0C#8, nibbles r1 r2]
  | .basr r1 r2 => [0x0D#8, nibbles r1 r2]
  | .mvcl r1 r2 => [0x0E#8, nibbles r1 r2]
  | .clcl r1 r2 => [0x0F#8, nibbles r1 r2]
  | .lpr r1 r2 => [0x10#8, nibbles r1 r2]
  | .lnr r1 r2 => [0x11#8, nibbles r1 r2]
  | .ltr r1 r2 => [0x12#8, nibbles r1 r2]
  | .lcr r1 r2 => [0x13#8, nibbles r1 r2]
  | .nr r1 r2 => [0x14#8, nibbles r1 r2]
  | .clr r1 r2 => [0x15#8, nibbles r1 r2]
  | .or r1 r2 => [0x16#8, nibbles r1 r2]
  | .xr r1 r2 => [0x17#8, nibbles r1 r2]
  | .lr r1 r2 => [0x18#8, nibbles r1 r2]
  | .cr r1 r2 => [0x19#8, nibbles r1 r2]
  | .ar r1 r2 => [0x1A#8, nibbles r1 r2]
  | .sr r1 r2 => [0x1B#8, nibbles r1 r2]
  | .mr r1 r2 => [0x1C#8, nibbles r1 r2]
  | .dr r1 r2 => [0x1D#8, nibbles r1 r2]
  | .alr r1 r2 => [0x1E#8, nibbles r1 r2]
  | .slr r1 r2 => [0x1F#8, nibbles r1 r2]
  | .lpdr r1 r2 => [0x20#8, nibbles r1 r2]
  | .lndr r1 r2 => [0x21#8, nibbles r1 r2]
  | .ltdr r1 r2 => [0x22#8, nibbles r1 r2]
  | .lcdr r1 r2 => [0x23#8, nibbles r1 r2]
  | .hdr r1 r2 => [0x24#8, nibbles r1 r2]
  | .lrdr r1 r2 => [0x25#8, nibbles r1 r2]
  | .mxr r1 r2 => [0x26#8, nibbles r1 r2]
  | .mxdr r1 r2 => [0x27#8, nibbles r1 r2]
  | .ldr r1 r2 => [0x28#8, nibbles r1 r2]
  | .cdr r1 r2 => [0x29#8, nibbles r1 r2]
  | .adr r1 r2 => [0x2A#8, nibbles r1 r2]
  | .sdr r1 r2 => [0x2B#8, nibbles r1 r2]
  | .mdr r1 r2 => [0x2C#8, nibbles r1 r2]
  | .ddr r1 r2 => [0x2D#8, nibbles r1 r2]
  | .awr r1 r2 => [0x2E#8, nibbles r1 r2]
  | .swr r1 r2 => [0x2F#8, nibbles r1 r2]
  | .lper r1 r2 => [0x30#8, nibbles r1 r2]
  | .lner r1 r2 => [0x31#8, nibbles r1 r2]
  | .lter r1 r2 => [0x32#8, nibbles r1 r2]
  | .lcer r1 r2 => [0x33#8, nibbles r1 r2]
  | .her r1 r2 => [0x34#8, nibbles r1 r2]
  | .lrer r1 r2 => [0x35#8, nibbles r1 r2]
  | .axr r1 r2 => [0x36#8, nibbles r1 r2]
  | .sxr r1 r2 => [0x37#8, nibbles r1 r2]
  | .ler r1 r2 => [0x38#8, nibbles r1 r2]
  | .cer r1 r2 => [0x39#8, nibbles r1 r2]
  | .aer r1 r2 => [0x3A#8, nibbles r1 r2]
  | .ser r1 r2 => [0x3B#8, nibbles r1 r2]
  | .mer r1 r2 => [0x3C#8, nibbles r1 r2]
  | .der r1 r2 => [0x3D#8, nibbles r1 r2]
  | .aur r1 r2 => [0x3E#8, nibbles r1 r2]
  | .sur r1 r2 => [0x3F#8, nibbles r1 r2]
  | .sth r1 x2 b2 d2 => [0x40#8, nibbles r1 x2] ++ baseDisp b2 d2
  | .la r1 x2 b2 d2 => [0x41#8, nibbles r1 x2] ++ baseDisp b2 d2
  | .stc r1 x2 b2 d2 => [0x42#8, nibbles r1 x2] ++ baseDisp b2 d2
  | .ic r1 x2 b2 d2 => [0x43#8, nibbles r1 x2] ++ baseDisp b2 d2
  | .ex r1 x2 b2 d2 => [0x44#8, nibbles r1 x2] ++ baseDisp b2 d2
  | .bal r1 x2 b2 d2 => [0x45#8, nibbles r1 x2] ++ baseDisp b2 d2
  | .bct r1 x2 b2 d2 => [0x46#8, nibbles r1 x2] ++ baseDisp b2 d2
  | .bc m1 x2 b2 d2 => [0x47#8, nibbles m1 x2] ++ baseDisp b2 d2
  | .lh r1 x2 b2 d2 => [0x48#8, nibbles r1 x2] ++ baseDisp b2 d2
  | .ch r1 x2 b2 d2 => [0x49#8, nibbles r1 x2] ++ baseDisp b2 d2
  | .ah r1 x2 b2 d2 => [0x4A#8, nibbles r1 x2] ++ baseDisp b2 d2
  | .sh r1 x2 b2 d2 => [0x4B#8, nibbles r1 x2] ++ baseDisp b2 d2
  | .mh r1 x2 b2 d2 => [0x4C#8, nibbles r1 x2] ++ baseDisp b2 d2
  | .bas r1 x2 b2 d2 => [0x4D#8, nibbles r1 x2] ++ baseDisp b2 d2
  | .cvd r1 x2 b2 d2 => [0x4E#8, nibbles r1 x2] ++ baseDisp b2 d2
  | .cvb r1 x2 b2 d2 => [0x4F#8, nibbles r1 x2] ++ baseDisp b2 d2
  | .st r1 x2 b2 d2 => [0x50#8, nibbles r1 x2] ++ baseDisp b2 d2
  | .lae r1 x2 b2 d2 => [0x51#8, nibbles r1 x2] ++ baseDisp b2 d2
  | .n r1 x2 b2 d2 => [0x54#8, nibbles r1 x2] ++ baseDisp b2 d2
  | .cl r1 x2 b2 d2 => [0x55#8, nibbles r1 x2] ++ baseDisp b2 d2
  | .o r1 x2 b2 d2 => [0x56#8, nibbles r1 x2] ++ baseDisp b2 d2
  | .x r1 x2 b2 d2 => [0x57#8, nibbles r1 x2] ++ baseDisp b2 d2
  | .l r1 x2 b2 d2 => [0x58#8, nibbles r1 x2] ++ baseDisp b2 d2
  | .c r1 x2 b2 d2 => [0x59#8, nibbles r1 x2] ++ baseDisp b2 d2
  | .a r1 x2 b2 d2 => [0x5A#8, nibbles r1 x2] ++ baseDisp b2 d2
  | .s r1 x2 b2 d2 => [0x5B#8, nibbles r1 x2] ++ baseDisp b2 d2
  | .m r1 x2 b2 d2 => [0x5C#8, nibbles r1 x2] ++ baseDisp b2 d2
  | .d r1 x2 b2 d2 => [0x5D#8, nibbles r1 x2] ++ baseDisp b2 d2
  | .al r1 x2 b2 d2 => [0x5E#8, nibbles r1 x2] ++ baseDisp b2 d2
  | .sl r1 x2 b2 d2 => [0x5F#8, nibbles r1 x2] ++ baseDisp b2 d2
  | .std r1 x2 b2 d2 => [0x60#8, nibbles r1 x2] ++ baseDisp b2 d2
  | .mxd r1 x2 b2 d2 => [0x67#8, nibbles r1 x2] ++ baseDisp b2 d2
  | .ld r1 x2 b2 d2 => [0x68#8, nibbles r1 x2] ++ baseDisp b2 d2
  | .cd r1 x2 b2 d2 => [0x69#8, nibbles r1 x2] ++ baseDisp b2 d2
  | .ad r1 x2 b2 d2 => [0x6A#8, nibbles r1 x2] ++ baseDisp b2 d2
  | .sd r1 x2 b2 d2 => [0x6B#8, nibbles r1 x2] ++ baseDisp b2 d2
  | .md r1 x2 b2 d2 => [0x6C#8, nibbles r1 x2] ++ baseDisp b2 d2
  | .dd r1 x2 b2 d2 => [0x6D#8, nibbles r1 x2] ++ baseDisp b2 d2
  | .aw r1 x2 b2 d2 => [0x6E#8, nibbles r1 x2] ++ baseDisp b2 d2
  | .sw r1 x2 b2 d2 => [0x6F#8, nibbles r1 x2] ++ baseDisp b2 d2
  | .ste r1 x2 b2 d2 => [0x70#8, nibbles r1 x2] ++ baseDisp b2 d2
  | .le r1 x2 b2 d2 => [0x78#8, nibbles r1 x2] ++ baseDisp b2 d2
  | .ce r1 x2 b2 d2 => [0x79#8, nibbles r1 x2] ++ baseDisp b2 d2
  | .ae r1 x2 b2 d2 => [0x7A#8, nibbles r1 x2] ++ baseDisp b2 d2
  | .se r1 x2 b2 d2 => [0x7B#8, nibbles r1 x2] ++ baseDisp b2 d2
  | .me r1 x2 b2 d2 => [0x7C#8, nibbles r1 x2] ++ baseDisp b2 d2
  | .de r1 x2 b2 d2 => [0x7D#8, nibbles r1 x2] ++ baseDisp b2 d2
  | .au r1 x2 b2 d2 => [0x7E#8, nibbles r1 x2] ++ baseDisp b2 d2
  | .su r1 x2 b2 d2 => [0x7F#8, nibbles r1 x2] ++ baseDisp b2 d2
  | .bxh r1 r3 b2 d2 => [0x86#8, nibbles r1 r3] ++ baseDisp b2 d2
  | .bxle r1 r3 b2 d2 => [0x87#8, nibbles r1 r3] ++ baseDisp b2 d2
  | .srl r1 b2 d2 => [0x88#8, nibbles r1 0] ++ baseDisp b2 d2
  | .sll r1 b2 d2 => [0x89#8, nibbles r1 0] ++ baseDisp b2 d2
  | .sra r1 b2 d2 => [0x8A#8, nibbles r1 0] ++ baseDisp b2 d2
  | .sla r1 b2 d2 => [0x8B#8, nibbles r1 0] ++ baseDisp b2 d2
  | .srdl r1 b2 d2 => [0x8C#8, nibbles r1 0] ++ baseDisp b2 d2
  | .sldl r1 b2 d2 => [0x8D#8, nibbles r1 0] ++ baseDisp b2 d2
  | .srda r1 b2 d2 => [0x8E#8, nibbles r1 0] ++ baseDisp b2 d2
  | .slda r1 b2 d2 => [0x8F#8, nibbles r1 0] ++ baseDisp b2 d2
  | .stm r1 r3 b2 d2 => [0x90#8, nibbles r1 r3] ++ baseDisp b2 d2
  | .tm b1 d1 i2 => [0x91#8, i2] ++ baseDisp b1 d1
  | .mvi b1 d1 i2 => [0x92#8, i2] ++ baseDisp b1 d1
  | .ts b2 d2 => [0x93#8, 0] ++ baseDisp b2 d2
  | .ni b1 d1 i2 => [0x94#8, i2] ++ baseDisp b1 d1
  | .cli b1 d1 i2 => [0x95#8, i2] ++ baseDisp b1 d1
  | .oi b1 d1 i2 => [0x96#8, i2] ++ baseDisp b1 d1
  | .xi b1 d1 i2 => [0x97#8, i2] ++ baseDisp b1 d1
  | .lm r1 r3 b2 d2 => [0x98#8, nibbles r1 r3] ++ baseDisp b2 d2
  | .lam r1 r3 b2 d2 => [0x9A#8, nibbles r1 r3] ++ baseDisp b2 d2
  | .stam r1 r3 b2 d2 => [0x9B#8, nibbles r1 r3] ++ baseDisp b2 d2
  | .mc b1 d1 i2 => [0xAF#8, i2] ++ baseDisp b1 d1
  | .stck b2 d2 => [0xB2#8, 0x05#8] ++ baseDisp b2 d2
  | .sac b2 d2 => [0xB2#8, 0x19#8] ++ baseDisp b2 d2
  | .ipm r1 => [0xB2#8, 0x22#8, 0, nibbles r1 0]
  | .iac r1 => [0xB2#8, 0x24#8, 0, nibbles r1 0]
  | .dxr r1 r2 => [0xB2#8, 0x2D#8, 0, nibbles r1 r2]
  | .tar r1 r2 => [0xB2#8, 0x4C#8, 0, nibbles r1 r2]
  | .cpya r1 r2 => [0xB2#8, 0x4D#8, 0, nibbles r1 r2]
  | .sar r1 r2 => [0xB2#8, 0x4E#8, 0, nibbles r1 r2]
  | .ear r1 r2 => [0xB2#8, 0x4F#8, 0, nibbles r1 r2]
  | .cs r1 r3 b2 d2 => [0xBA#8, nibbles r1 r3] ++ baseDisp b2 d2
  | .cds r1 r3 b2 d2 => [0xBB#8, nibbles r1 r3] ++ baseDisp b2 d2
  | .clm r1 m3 b2 d2 => [0xBD#8, nibbles r1 m3] ++ baseDisp b2 d2
  | .stcm r1 m3 b2 d2 => [0xBE#8, nibbles r1 m3] ++ baseDisp b2 d2
  | .icm r1 m3 b2 d2 => [0xBF#8, nibbles r1 m3] ++ baseDisp b2 d2
  | .mvn l b1 d1 b2 d2 => [0xD1#8, lenField l] ++ baseDisp b1 d1 ++ baseDisp b2 d2
  | .mvc l b1 d1 b2 d2 => [0xD2#8, lenField l] ++ baseDisp b1 d1 ++ baseDisp b2 d2
  | .mvz l b1 d1 b2 d2 => [0xD3#8, lenField l] ++ baseDisp b1 d1 ++ baseDisp b2 d2
  | .nc l b1 d1 b2 d2 => [0xD4#8, lenField l] ++ baseDisp b1 d1 ++ baseDisp b2 d2
  | .clc l b1 d1 b2 d2 => [0xD5#8, lenField l] ++ baseDisp b1 d1 ++ baseDisp b2 d2
  | .oc l b1 d1 b2 d2 => [0xD6#8, lenField l] ++ baseDisp b1 d1 ++ baseDisp b2 d2
  | .xc l b1 d1 b2 d2 => [0xD7#8, lenField l] ++ baseDisp b1 d1 ++ baseDisp b2 d2
  | .tr l b1 d1 b2 d2 => [0xDC#8, lenField l] ++ baseDisp b1 d1 ++ baseDisp b2 d2
  | .trt l b1 d1 b2 d2 => [0xDD#8, lenField l] ++ baseDisp b1 d1 ++ baseDisp b2 d2
  | .ed l b1 d1 b2 d2 => [0xDE#8, lenField l] ++ baseDisp b1 d1 ++ baseDisp b2 d2
  | .edmk l b1 d1 b2 d2 => [0xDF#8, lenField l] ++ baseDisp b1 d1 ++ baseDisp b2 d2
  | .srp l1 b1 d1 b2 d2 i3 => [0xF0#8, nibbles (lenField4 l1) i3] ++ baseDisp b1 d1 ++ baseDisp b2 d2
  | .mvo l1 l2 b1 d1 b2 d2 => [0xF1#8, nibbles (lenField4 l1) (lenField4 l2)] ++ baseDisp b1 d1 ++ baseDisp b2 d2
  | .pack l1 l2 b1 d1 b2 d2 => [0xF2#8, nibbles (lenField4 l1) (lenField4 l2)] ++ baseDisp b1 d1 ++ baseDisp b2 d2
  | .unpk l1 l2 b1 d1 b2 d2 => [0xF3#8, nibbles (lenField4 l1) (lenField4 l2)] ++ baseDisp b1 d1 ++ baseDisp b2 d2
  | .zap l1 l2 b1 d1 b2 d2 => [0xF8#8, nibbles (lenField4 l1) (lenField4 l2)] ++ baseDisp b1 d1 ++ baseDisp b2 d2
  | .cp l1 l2 b1 d1 b2 d2 => [0xF9#8, nibbles (lenField4 l1) (lenField4 l2)] ++ baseDisp b1 d1 ++ baseDisp b2 d2
  | .ap l1 l2 b1 d1 b2 d2 => [0xFA#8, nibbles (lenField4 l1) (lenField4 l2)] ++ baseDisp b1 d1 ++ baseDisp b2 d2
  | .sp l1 l2 b1 d1 b2 d2 => [0xFB#8, nibbles (lenField4 l1) (lenField4 l2)] ++ baseDisp b1 d1 ++ baseDisp b2 d2
  | .mp l1 l2 b1 d1 b2 d2 => [0xFC#8, nibbles (lenField4 l1) (lenField4 l2)] ++ baseDisp b1 d1 ++ baseDisp b2 d2
  | .dp l1 l2 b1 d1 b2 d2 => [0xFD#8, nibbles (lenField4 l1) (lenField4 l2)] ++ baseDisp b1 d1 ++ baseDisp b2 d2

/-- The bytes of a table word: one big-endian number of n bytes, R58. -/
def wordBytes (n w : Nat) : List Byte :=
  match n with
  | 0 => []
  | k + 1 => BitVec.ofNat 8 (w >>> (8 * k)) :: wordBytes k w

/-- The bytes of a table word of nbits bits as storage holds them, and zeros up to the longest instruction (6 bytes, R91). -/
def tableBytes (nbits w : Nat) : List Byte := wordBytes (nbits / 8) w ++ List.replicate (6 - nbits / 8) 0

/-- The instruction the decoder reads from a word of spec/opcode_table.json. The table numbers a row as one big-endian number
of all the instruction's bytes (log 40). -/
def decodeTableWord (nbits w : Nat) : Option Instr :=
  match decode (tableBytes nbits w) with
  | .ok (i, _) => some i
  | .error _ => none

end Sys2Proof
end

