-- ==== Sys2Proof/Machine/State.lean ====
section
/-! DEFINITION. The state of the machine: everything spec/10_state.md, spec/20_memory.md and spec/60_exceptions.md give the CPU and
its memory, as plain data, and the state in which a program starts (spec/70_reset_and_hazards.md R480). -/

namespace Sys2Proof.Machine

/-- The eleven program interruptions of R440, under the labels of spec/00_scope.md R8. -/
inductive Interruption where
  /-- X'48', Adreßumsetzungsfehler: R444. -/
  | addressTranslation
  /-- X'54', Privilegierte Operation: R443. -/
  | privilegedOperation
  /-- X'58', Falscher Operationscode: R443. -/
  | operation
  /-- X'5C', Adreßfehler: R445. -/
  | specification
  /-- X'60', Datenfehler: R446. -/
  | data
  /-- X'64', Exponenten-Überlauf: R447. -/
  | exponentOverflow
  /-- X'68', Divisionsfehler: R448. -/
  | divide
  /-- X'6C', Signifikanz: R450. -/
  | significance
  /-- X'70', Exponenten-Unterlauf: R451. -/
  | exponentUnderflow
  /-- X'74', Dezimal-Überlauf: R452. -/
  | decimalOverflow
  /-- X'78', Festpunkt-Überlauf: R453. -/
  | fixedPointOverflow
deriving DecidableEq, Repr

/-- Where the run of the program stands, R449. -/
inductive RunStatus where
  /-- The program runs. -/
  | running
  /-- Terminated(w): BS2000 has ended the program after an interruption of this kind. -/
  | terminated (k : Interruption)
  /-- BS2000 has been handed an interruption of this kind and activates the program's STXIT process. -/
  | stxit (k : Interruption)
  /-- An SVC has handed control to BS2000's own routine, R299 and R459. -/
  | service
  /-- That routine has ended the program: the outcome "stop" of R459. -/
  | ended
deriving DecidableEq, Repr

/-- Allocated(space, page) of R6: one page of 4096 bytes (R52) and the accesses it is allocated for (R61). -/
structure PageEntry where
  space : Nat
  page : Nat
  readable : Bool
  writable : Bool
deriving DecidableEq, Repr

/-- One entry of the program's access list: an ALET, the space it designates (SpaceOf, R56), and whether TAR answers CC 2
for it (AletClass, R430; CC 1 otherwise). -/
structure AccessEntry where
  alet : Word
  space : Nat
  class2 : Bool
deriving DecidableEq, Repr

/-- Storage of all spaces, R53: bytes by key (log 10), keys strictly rising, no byte equal to what an unlisted one reads as. -/
abbrev Memory := List Host.Cell

/-- What a byte that is not listed reads as. DESIGN CHOICE, log 8. -/
def Memory.unlisted : Byte := 0

/-- The canonical form. -/
abbrev Memory.wf (m : Memory) : Prop :=
  List.Pairwise (fun a b : Host.Cell => a.1 < b.1) m ∧ ∀ c ∈ m, c.2 ≠ Memory.unlisted

/-- Why a step of the machine stops with a fault. -/
inductive Fault where
  /-- A step of a program that BS2000 has ended, R449: raised by step. Safe: nothing runs after the termination. Log 14. -/
  | programTerminated (k : Interruption)
  /-- A step of a program that a service of BS2000 has ended, R459: raised by step. Safe: nothing runs after the end. Log 44. -/
  | programEnded
deriving DecidableEq, Repr

/-- Why a step of the machine is refused. -/
inductive Refusal where
  /-- An instruction without a meaning: raised by the arms of exec that have none. Safe. -/
  | notModelled (mnemonic : String)
  /-- SAC with a code other than 0000 and 0010 (R428, U10): raised by SAC. Safe: the manual gives it no effect. Log 25. -/
  | sacUndefinedCode (code : Nibble)
  /-- A step after the hand-off to the STXIT process under the default host, of which the manual gives only GR3 (R449): raised by
  step. Safe. Log 15. -/
  | stxitProcess (k : Interruption)
deriving DecidableEq, Repr

/-- The machine. -/
structure State where
  /-- The parameters of R6 that a run keeps. -/
  cfg : Config
  /-- General registers, R11. -/
  gr : Vector Word 16
  /-- Access registers, R13. -/
  ar : Vector Word 16
  /-- Floating-point registers 0, 2, 4, 6 in this order, R14. -/
  fpr : Vector Dword 4
  /-- The instruction address, R15: 24 or 31 bits, the bits to the left zero. -/
  pc : Word
  /-- The condition code, R16. -/
  cc : BitVec 2
  /-- The program mask, R17; its leftmost bit is PM(0). -/
  pm : BitVec 4
  /-- AMODE, R18: true in 31-bit mode. -/
  amode : Bool
  /-- ASC, R19: true in access register mode. -/
  asc : Bool
  /-- The time-of-day clock as last read, R21. Log 12. -/
  tod : Dword
  /-- Storage, R50 and R53. -/
  mem : Memory
  /-- The allocated pages, R52. Log 11. -/
  pages : List PageEntry
  /-- The program's access list, R53 and R56. Log 10. -/
  accessList : List AccessEntry
  /-- Whether a STXIT process is defined, R449. Log 15. -/
  stxit : Bool
  /-- The privileged register that takes SVC's I field, R299. Log 16. -/
  svcCode : Byte
  /-- Where the run stands, R449. -/
  status : RunStatus
  /-- The model's own: true while EX executes its target, whose length is then 4 (R203). Log 30. -/
  viaEx : Bool
  /-- The model's own: how many free values have been taken. Log 13. -/
  free : Nat
deriving DecidableEq, Repr

/-- The state in which BS2000 lets the program go on, as R459 and R449 have it: what its registers hold and where it goes on, the
bytes of storage that BS2000 has written, in their order, and what it has done to the pages, the access list and the STXIT process.
goesOn is false where the outcome is to stop, in this state. -/
structure HostReturn where
  goesOn : Bool
  gr : Vector Word 16
  ar : Vector Word 16
  fpr : Vector Dword 4
  pc : Word
  cc : BitVec 2
  pm : BitVec 4
  amode : Bool
  asc : Bool
  writes : List Host.Cell
  pages : List PageEntry
  accessList : List AccessEntry
  stxit : Bool
deriving DecidableEq, Repr, Inhabited

/-- Host.Svc(I, state) of R6, R299 and R459: OPEN (D4), so a constant without a body. Log 44. -/
opaque hostSvc : Byte → State → HostReturn

/-- Host.ProgramInterruption(w, state) of R6 and R449 where a STXIT process is defined: the state in which the process begins. OPEN
(D3), so a constant without a body. Log 44. -/
opaque hostInterruption : Interruption → State → HostReturn

/-- The entries of R480 that BS2000 or the CPU fills in. -/
structure StartParams where
  cfg : Config
  gr : Vector Word 16
  fpr : Vector Dword 4
  entry : Word
  cc : BitVec 2
  amode : Bool
  tod : Dword
  mem : Memory
  pages : List PageEntry
  accessList : List AccessEntry
deriving DecidableEq, Repr

/-- The state in which BS2000 starts a program: R480. What the table there states is fixed, the rest is a parameter. A CPU
without the 31-bit mode is in the other, R18. -/
def State.start (p : StartParams) : State :=
  { cfg := p.cfg, gr := p.gr, ar := Vector.replicate 16 0, fpr := p.fpr, pc := p.entry, cc := p.cc, pm := 15,
    amode := p.amode && p.cfg.has31Bit, asc := false, tod := p.tod, mem := p.mem, pages := p.pages, accessList := p.accessList,
    stxit := false, svcCode := 0, status := .running, viaEx := false, free := 0 }

/-- The values the model takes where R480 leaves one open. DESIGN CHOICE, logs 1 to 6 and 8 to 12. -/
def StartParams.default : StartParams :=
  { cfg := Config.default, gr := Vector.replicate 16 0, fpr := Vector.replicate 4 0, entry := 0, cc := 0, amode := false,
    tod := 0, mem := [], pages := [{ space := 0, page := 0, readable := true, writable := true }], accessList := [] }

/-- The machine right after reset. The manual has no reset but the start of a program (R481). -/
def State.reset : State := State.start StartParams.default

end Sys2Proof.Machine
end

