-- ==== Sys2Proof/Machine/Ops.lean ====
section
/-! DEFINITION. The operations over registers and storage, the fetch of an instruction's bytes, and the taking of a program
interruption. There is no return from one among the instructions (R457). -/

namespace Sys2Proof.Machine

/-- What a meaning and a step answer. -/
abbrev Result := Host.Outcome State Fault Refusal

/-! ## Addresses and registers -/

/-- The bits of an address, R18 and R55. -/
def addrMask (amode : Bool) : Word := if amode then 0x7FFFFFFF else 0x00FFFFFF

/-- trunc of R8: an address modulo 2^24 or 2^31. -/
def trunc (amode : Bool) (a : Word) : Word := a &&& addrMask amode

/-- GR[r], R11. -/
def State.getGr (s : State) (r : Reg) : Word := s.gr[r.toNat]'r.isLt

/-- GR[r] <- v. -/
def State.setGr (s : State) (r : Reg) (v : Word) : State := { s with gr := s.gr.set r.toNat v r.isLt }

/-- AR[r], R13. -/
def State.getAr (s : State) (r : Reg) : Word := s.ar[r.toNat]'r.isLt

/-- AR[r] <- v. -/
def State.setAr (s : State) (r : Reg) (v : Word) : State := { s with ar := s.ar.set r.toNat v r.isLt }

/-- Which of the four floating-point registers a register number names, R14: 0, 2, 4, 6 in this order. -/
def fprIndex (r : Reg) : BitVec 2 := r.extractLsb' 1 2

/-- FPR[r], R14. -/
def State.getFpr (s : State) (r : Reg) : Dword := s.fpr[(fprIndex r).toNat]'(fprIndex r).isLt

/-- FPR[r] <- v. -/
def State.setFpr (s : State) (r : Reg) (v : Dword) : State :=
  { s with fpr := s.fpr.set (fprIndex r).toNat v (fprIndex r).isLt }

/-- CC <- c. -/
def State.setCc (s : State) (c : BitVec 2) : State := { s with cc := c }

/-- The length of the executing instruction in bytes: its own, or that of EX when EX executes it (R203). -/
def State.ilenOf (s : State) (len : Nat) : Nat := if s.viaEx then 4 else len

/-- next of R8 and R15: the address of the next sequential instruction. -/
def State.nextAddr (s : State) (len : Nat) : Word := trunc s.amode (s.pc + BitVec.ofNat 32 (s.ilenOf len))

/-- pc <- next. -/
def State.advance (s : State) (len : Nat) : State := { s with pc := s.nextAddr len }

/-- Branch(t) of R130. -/
def State.branch (s : State) (t : Word) : State := { s with pc := trunc s.amode t }

/-! ## Storage -/

/-- The key of a byte in Memory: spaces one after the other, 2^31 bytes each. Log 10. -/
def memKey (space addr : Nat) : Nat := space * 2147483648 + addr

/-- The byte at a key; an unlisted one reads as Memory.unlisted. -/
def Memory.get (m : Memory) (k : Nat) : Byte :=
  match m with
  | [] => Memory.unlisted
  | c :: cs => if c.1 = k then c.2 else Memory.get cs k

/-- Puts a cell where the keys keep rising; a cell of this key is replaced. -/
def Memory.insert (m : Memory) (k : Nat) (v : Byte) : Memory :=
  match m with
  | [] => [(k, v)]
  | c :: cs => if k < c.1 then (k, v) :: c :: cs else if c.1 = k then (k, v) :: cs else c :: Memory.insert cs k v

/-- Takes the cell of a key away. -/
def Memory.erase (m : Memory) (k : Nat) : Memory := m.filter (fun c => c.1 != k)

/-- Stores one byte; a byte that reads as unlisted is not listed. -/
def Memory.set (m : Memory) (k : Nat) (v : Byte) : Memory :=
  if v = Memory.unlisted then Memory.erase m k else Memory.insert (Memory.erase m k) k v

/-- A storage operand: its space (none where the ALET designates nothing, R56), the address of its leftmost byte, and the mode
its addresses wrap in (R57). -/
structure Loc where
  space : Option Nat
  addr : Word
  amode : Bool
deriving DecidableEq, Repr

/-- The address of byte i of an operand, R57. -/
def Loc.at (l : Loc) (i : Nat) : Nat := (trunc l.amode (l.addr + BitVec.ofNat 32 i)).toNat

/-- The operand that begins i bytes further on. -/
def Loc.plus (l : Loc) (i : Nat) : Loc := { l with addr := trunc l.amode (l.addr + BitVec.ofNat 32 i) }

/-- The key of byte i of an operand, where the operand has a space. -/
def Loc.key (l : Loc) (i : Nat) : Option Nat := l.space.map (fun sp => memKey sp (l.at i))

/-- The kinds of access of R61. -/
inductive Access where
  | read
  | write
  | update
deriving DecidableEq, Repr

/-- The allocation predicates of R61: whether an entry allocates a page of a space for reading. -/
def State.pageReadable (s : State) (space page : Nat) : Bool :=
  s.pages.any fun p => p.space == space && p.page == page && p.readable

/-- Whether an entry allocates a page of a space for writing, R61. -/
def State.pageWritable (s : State) (space page : Nat) : Bool :=
  s.pages.any fun p => p.space == space && p.page == page && p.writable

/-- Whether a page of a space is allocated for an access, R61: an update needs both, be it by one entry or by two. -/
def State.pageAllows (s : State) (k : Access) (space page : Nat) : Bool :=
  match k with
  | .read => s.pageReadable space page
  | .write => s.pageWritable space page
  | .update => s.pageReadable space page && s.pageWritable space page

/-- Whether an address of a space is allocated for an access: R50, R52, R61. -/
def State.addrAllowed (s : State) (k : Access) (space addr : Nat) : Bool :=
  (space != 0 || decide (addr ≤ s.cfg.addrTop)) && s.pageAllows k space (addr / 4096)

/-- Whether byte i of an operand is allocated for an access. An ALET that designates nothing makes it fail, R56 (D8). -/
def State.byteAllowed (s : State) (k : Access) (l : Loc) (i : Nat) : Bool :=
  match l.space with
  | none => false
  | some sp => s.addrAllowed k sp (l.at i)

/-- Whether the first n bytes of an operand are allocated for an access. -/
def State.allows (s : State) (k : Access) (l : Loc) (n : Nat) : Bool :=
  match n with
  | 0 => true
  | i + 1 => s.allows k l i && s.byteAllowed k l i

/-- Byte i of an operand. -/
def State.byteAt (s : State) (l : Loc) (i : Nat) : Byte :=
  match l.key i with
  | none => Memory.unlisted
  | some k => s.mem.get k

/-- Byte i of an operand <- v. -/
def State.setByte (s : State) (l : Loc) (i : Nat) (v : Byte) : State :=
  match l.key i with
  | none => s
  | some k => { s with mem := s.mem.set k v }

/-- The first n bytes of an operand as an unsigned big-endian number, R58. -/
def State.value (s : State) (l : Loc) (n : Nat) : Nat :=
  match n with
  | 0 => 0
  | i + 1 => s.value l i * 256 + (s.byteAt l i).toNat

/-- Stores a number in the first n bytes of an operand, big-endian, R58. -/
def State.store (s : State) (l : Loc) (n v : Nat) : State :=
  match n with
  | 0 => s
  | i + 1 => (s.store l i (v / 256)).setByte l i (BitVec.ofNat 8 v)

/-- n bytes from byte i of an operand on, left to right. -/
def State.bytesFrom (s : State) (l : Loc) (i n : Nat) : List Byte :=
  match n with
  | 0 => []
  | k + 1 => s.byteAt l i :: s.bytesFrom l (i + 1) k

/-- MemRead of R8. -/
def State.read (s : State) (l : Loc) (n : Nat) : Except Interruption Nat :=
  if s.allows .read l n then .ok (s.value l n) else .error .addressTranslation

/-- Whether STRICT_ALIGNMENT rejects an operand of n bytes, R60. -/
def State.misaligned (s : State) (l : Loc) (n : Nat) : Bool := s.cfg.strictAlignment && l.addr.toNat % n != 0

/-- ReadH, ReadW, ReadD of R130: the alignment is checked before the access. -/
def State.readAligned (s : State) (l : Loc) (n : Nat) : Except Interruption Nat :=
  if s.misaligned l n then .error .specification else s.read l n

/-- ReadH of R130. -/
def State.readH (s : State) (l : Loc) : Except Interruption Half := (s.readAligned l 2).map (BitVec.ofNat 16)

/-- ReadW of R130. -/
def State.readW (s : State) (l : Loc) : Except Interruption Word := (s.readAligned l 4).map (BitVec.ofNat 32)

/-- ReadD of R130. -/
def State.readD (s : State) (l : Loc) : Except Interruption Dword := (s.readAligned l 8).map (BitVec.ofNat 64)

/-- One byte read, R8. -/
def State.readB (s : State) (l : Loc) : Except Interruption Byte := (s.read l 1).map (BitVec.ofNat 8)

/-- MemWrite of R8. -/
def State.write (s : State) (l : Loc) (n v : Nat) : Except Interruption State :=
  if s.allows .write l n then .ok (s.store l n v) else .error .addressTranslation

/-- WriteH, WriteW, WriteD of R130. -/
def State.writeAligned (s : State) (l : Loc) (n v : Nat) : Except Interruption State :=
  if s.misaligned l n then .error .specification else s.write l n v

/-! ## Program interruptions -/

/-- The weights of R440. -/
def Interruption.weight (k : Interruption) : Byte :=
  match k with
  | .addressTranslation => 0x48
  | .privilegedOperation => 0x54
  | .operation => 0x58
  | .specification => 0x5C
  | .data => 0x60
  | .exponentOverflow => 0x64
  | .divide => 0x68
  | .significance => 0x6C
  | .exponentUnderflow => 0x70
  | .decimalOverflow => 0x74
  | .fixedPointOverflow => 0x78

/-- TAKING A PROGRAM INTERRUPTION, R441 and R449: with no STXIT process the program is terminated with this weight; with one,
BS2000 activates it with the weight in GR3. The state handed over is the one that R442 has left, whole: before the instruction where
the interruption suppresses, after it and with pc at next where it completes. BS2000's own host finds it so, GR3 too, in the next step
(State.activateStxit, log 44); the default host only puts the weight in GR3 (log 15). An interruption inside a running STXIT process,
of which the manual says nothing (R457, N2), is taken like any other: the model's choice (DESIGN CHOICE, log 45). -/
def State.interrupt (s : State) (k : Interruption) : Result :=
  if !s.stxit then .next { s with status := .terminated k }
  else if s.cfg.hasServices then .next { s with status := .stxit k }
  else .next { s.setGr 3 (k.weight.zeroExtend 32) with status := .stxit k }

/-- The end of an instruction: pc <- next, R8. -/
def State.finish (s : State) (len : Nat) : Result := .next (s.advance len)

/-- The end of an instruction that may raise a completing interruption, R442(a). -/
def State.complete (s : State) (len : Nat) (k : Option Interruption) : Result :=
  match k with
  | none => s.finish len
  | some k => (s.advance len).interrupt k

/-- A condition without which the instruction is suppressed, R442(b). -/
def State.require (s : State) (c : Bool) (k : Interruption) (r : Result) : Result := if c then r else s.interrupt k

/-- An access or a check without whose answer the instruction is suppressed, R442(b). -/
def State.withOperand {α : Type} (s : State) (x : Except Interruption α) (f : α → Result) : Result :=
  match x with
  | .ok a => f a
  | .error k => s.interrupt k

/-! ## Instruction fetch -/

/-- An address of the program space, where instructions stand: R15. -/
def State.code (s : State) (a : Word) : Loc := { space := some 0, addr := trunc s.amode a, amode := s.amode }

/-- The fetch of R486 and R115: the address must be even and the bytes readable; the first byte gives the length. -/
def State.fetchAt (s : State) (a : Word) : Except Interruption (List Byte) :=
  if a.getLsbD 0 then .error .specification
  else if s.allows .read (s.code a) 2 then
    if s.allows .read (s.code a) (ilen (s.byteAt (s.code a) 0)) then
      .ok (s.bytesFrom (s.code a) 0 (ilen (s.byteAt (s.code a) 0)))
    else .error .addressTranslation
  else .error .addressTranslation

/-- The interruption of an operation code that table 7.3 does not list, R114 and R443. -/
def unlistedWeight (op : BitVec 16) : Interruption :=
  if Config.unlistedPrivileged op then .privilegedOperation else .operation

/-- What a decoder's refusal raises. A truncated instruction cannot come from fetchAt; it would be unreadable bytes. -/
def decodeInterruption (e : DecodeError) : Interruption :=
  match e with
  | .unlistedOpcode op => unlistedWeight op
  | .truncated => .addressTranslation

/-! ## Free values -/

/-- Counts one taking of free values. Log 13. -/
def State.useFree (s : State) : State := { s with free := s.free + 1 }

/-! ## BS2000 as the host -/

/-- Cells written one after the other. -/
def Memory.setCells (m : Memory) (cs : List Host.Cell) : Memory :=
  match cs with
  | [] => m
  | c :: cs => (m.set c.1 c.2).setCells cs

/-- The program as BS2000 lets it go on, R459 and R449. The modes are those that the CPU has (R18, R19) and the instruction address
has the width of the mode (R15); the parameters, the clock and SVC's register stay. Log 44. -/
def State.resume (s : State) (h : HostReturn) : State :=
  { s with
    gr := h.gr, ar := h.ar, fpr := h.fpr, pc := trunc (h.amode && s.cfg.has31Bit) h.pc, cc := h.cc, pm := h.pm,
    amode := h.amode && s.cfg.has31Bit, asc := h.asc && s.cfg.hasEsa, mem := s.mem.setCells h.writes, pages := h.pages,
    accessList := h.accessList, stxit := h.stxit, status := .running, free := s.free + 1 }

/-- BS2000's routine after an SVC, R459: the state becomes the one that Host.Svc gives, and the program goes on in it or has ended. -/
def State.serve (s : State) : Result :=
  .next { s.resume (hostSvc s.svcCode s) with status := if (hostSvc s.svcCode s).goesOn then .running else .ended }

/-- BS2000 after an interruption for which the program has a STXIT process, R449: from the state that the interrupted program has left,
the process begins in a state of the host, with the weight in GR3 (log 15). What the default host does then is not described, so it is refused. -/
def State.activateStxit (s : State) (k : Interruption) : Result :=
  if s.cfg.hasServices then .next ((s.resume (hostInterruption k s)).setGr 3 (k.weight.zeroExtend 32))
  else .refused (.stxitProcess k)

end Sys2Proof.Machine
end

