-- ==== Sys2Proof/Machine/Operands.lean ====
section
/-! DEFINITION. The operand forms: effective addresses (spec/20_memory.md R54), spaces (R56), register pairs (R12), byte masks
(spec/30_encoding.md R106), link words (R136, R139). -/

namespace Sys2Proof.Machine

/-- A base or index component: a field of 0 gives 0 and never GR0, R54 and R109. -/
def State.regOrZero (s : State) (r : Reg) : Word := if r = 0 then 0 else s.getGr r

/-- The sum of R54 before it is truncated. -/
def State.addrSum (s : State) (x b : Reg) (d : Disp) : Word := s.regOrZero x + s.regOrZero b + d.zeroExtend 32

/-- addrx(X, B, D) of R54. -/
def State.addrx (s : State) (x b : Reg) (d : Disp) : Word := trunc s.amode (s.addrSum x b d)

/-- SpaceOf of R56, the program space for the ALET 0. -/
def State.spaceOfAlet (s : State) (alet : Word) : Option Nat :=
  if alet = 0 then some 0 else (s.accessList.find? (fun e => e.alet == alet)).map (fun e => e.space)

/-- spc(B) of R56. -/
def State.spaceOf (s : State) (b : Reg) : Option Nat :=
  if s.asc && b != 0 then s.spaceOfAlet (s.getAr b) else some 0

/-- The storage operand D(X,B). -/
def State.opX (s : State) (x b : Reg) (d : Disp) : Loc :=
  { space := s.spaceOf b, addr := s.addrx x b d, amode := s.amode }

/-- The storage operand D(B). -/
def State.opB (s : State) (b : Reg) (d : Disp) : Loc := s.opX 0 b d

/-- A storage operand whose address a register holds: MVCL and CLCL, R55, R179 and R242. Its space is that of the access
register of this number, log 21. -/
def State.opR (s : State) (r : Reg) : Loc :=
  { space := s.spaceOf r, addr := trunc s.amode (s.getGr r), amode := s.amode }

/-- Whether a register number is even, R12. -/
def isEven (r : Reg) : Bool := !r.getLsbD 0

/-- GRpair[r] of R12. -/
def State.getPair (s : State) (r : Reg) : Dword := s.getGr r ++ s.getGr (r + 1)

/-- GRpair[r] <- v. -/
def State.setPair (s : State) (r : Reg) (v : Dword) : State :=
  (s.setGr r (v.extractLsb' 32 32)).setGr (r + 1) (v.extractLsb' 0 32)

/-- How many registers a range R1 to R3 names, R213 and R298. -/
def regCount (r1 r3 : Reg) : Nat := (r3 - r1).toNat + 1

/-- The general registers from r on, n of them, as one big-endian number: what STM stores, R298. -/
def State.grRange (s : State) (r : Reg) (n : Nat) : Nat :=
  match n with
  | 0 => 0
  | k + 1 => s.grRange r k * 4294967296 + (s.getGr (r + BitVec.ofNat 4 k)).toNat

/-- The general registers from r on, n of them, from one big-endian number: what LM loads, R213. -/
def State.setGrRange (s : State) (r : Reg) (n v : Nat) : State :=
  match n with
  | 0 => s
  | k + 1 => (s.setGrRange r k (v / 4294967296)).setGr (r + BitVec.ofNat 4 k) (BitVec.ofNat 32 v)

/-- The access registers from r on, as STAM stores them, R429. -/
def State.arRange (s : State) (r : Reg) (n : Nat) : Nat :=
  match n with
  | 0 => 0
  | k + 1 => s.arRange r k * 4294967296 + (s.getAr (r + BitVec.ofNat 4 k)).toNat

/-- The access registers from r on, as LAM loads them, R426. -/
def State.setArRange (s : State) (r : Reg) (n v : Nat) : State :=
  match n with
  | 0 => s
  | k + 1 => (s.setArRange r k (v / 4294967296)).setAr (r + BitVec.ofNat 4 k) (BitVec.ofNat 32 v)

/-- Byte j of a word, byte 0 leftmost, R106. -/
def byteOf (w : Word) (j : Nat) : Byte := w.extractLsb' (8 * (3 - j)) 8

/-- A word with byte j replaced. -/
def setByteOf (w : Word) (j : Nat) (v : Byte) : Word :=
  (w &&& ~~~((0xFF : Word) <<< (8 * (3 - j)))) ||| (v.zeroExtend 32 <<< (8 * (3 - j)))

/-- The byte numbers an M3 mask selects, left to right, R106. -/
def maskBytes (m : Mask) : List Nat := [0, 1, 2, 3].filter (fun j => m.getMsbD j)

/-- How many bytes a mask selects. -/
def maskCount (m : Mask) : Nat := (maskBytes m).length

/-- The selected bytes of a word as one big-endian number, R178 and R297. -/
def selectBytes (w : Word) (js : List Nat) (acc : Nat) : Nat :=
  match js with
  | [] => acc
  | j :: js => selectBytes w js (acc * 256 + (byteOf w j).toNat)

/-- A word with the selected bytes replaced from a big-endian number, left to right, R205. -/
def insertBytes (w : Word) (js : List Nat) (v : Nat) : Word :=
  match js with
  | [] => w
  | j :: js => insertBytes (setByteOf w j (BitVec.ofNat 8 (v / 256 ^ js.length))) js v

/-- The low 24 bits of a register, a length of MVCL and CLCL: R179. -/
def lowLength (w : Word) : Nat := (w.extractLsb' 0 24).toNat

/-- A register with its low 24 bits replaced, R180. -/
def setLowLength (w : Word) (n : Nat) : Word := w.extractLsb' 24 8 ++ BitVec.ofNat 24 n

/-- One bit as a word in bit 0 (leftmost). -/
def bit0 (b : Bool) : Word := if b then 0x80000000 else 0

/-- AMODE and next, the link information of BASR, BAS and BASSM: R139. -/
def State.saveWord (s : State) (len : Nat) : Word := bit0 s.amode ||| s.nextAddr len

/-- LinkWord of R136, the link information of BALR and BAL. The length code is in halfwords and is that of EX where EX executes
the instruction. Log 26. -/
def State.linkWord (s : State) (len : Nat) : Word :=
  if s.amode then 0x80000000 ||| s.nextAddr len
  else BitVec.ofNat 2 (s.ilenOf len / 2) ++ (s.cc ++ (s.pm ++ (s.nextAddr len).extractLsb' 0 24))

/-- A floating-point register number, R14: 0, 2, 4 or 6. -/
def isFpr (r : Reg) : Bool := r == 0 || r == 2 || r == 4 || r == 6

/-- A floating-point register pair, R14: 0 or 4. -/
def isFprPair (r : Reg) : Bool := r == 0 || r == 4

/-- FPRshort[r] of R22. -/
def State.getShort (s : State) (r : Reg) : Word := (s.getFpr r).extractLsb' 32 32

/-- FPRshort[r] <- v; the right half stays, R14. -/
def State.setShort (s : State) (r : Reg) (v : Word) : State := s.setFpr r (v ++ (s.getFpr r).extractLsb' 0 32)

/-- FPRext[r] of R22. -/
def State.getExt (s : State) (r : Reg) : Qword := s.getFpr r ++ s.getFpr (r + 2)

/-- FPRext[r] <- v. -/
def State.setExt (s : State) (r : Reg) (v : Qword) : State :=
  (s.setFpr r (v.extractLsb' 64 64)).setFpr (r + 2) (v.extractLsb' 0 64)

end Sys2Proof.Machine
end

