-- ==== Sys2Proof/Machine/Flags.lean ====
section
/-! DEFINITION. The condition code and the overflows: spec/10_state.md R16, R17, R26 to R28, spec/60_exceptions.md R453 and R455. -/

namespace Sys2Proof.Machine

/-- CCsigned of R130. -/
def ccSigned (v : Int) : BitVec 2 := if v = 0 then 0 else if v < 0 then 1 else 2

/-- CCcmp of R170. -/
def ccCompare (x y : Int) : BitVec 2 := if x = y then 0 else if x < y then 1 else 2

/-- The condition code of the logical connectives: 0 for a zero result, else 1 (R248). -/
def ccNonzero (nonzero : Bool) : BitVec 2 := if nonzero then 1 else 0

/-- The condition code of a logical addition, R134. -/
def ccAddLogical (x y : Word) : BitVec 2 :=
  (if x.toNat + y.toNat < 4294967296 then 0 else 2) + (if x + y = 0 then 0 else 1)

/-- The condition code of a logical subtraction: of the addition of the complement and of 1, R274. -/
def ccSubLogical (x y : Word) : BitVec 2 :=
  (if x.toNat + (4294967295 - y.toNat) + 1 < 4294967296 then 0 else 2) + (if x - y = 0 then 0 else 1)

/-- The program mask bits of R17. -/
def State.maskFixed (s : State) : Bool := s.pm.getMsbD 0
/-- PM(1), decimal overflow. -/
def State.maskDecimal (s : State) : Bool := s.pm.getMsbD 1
/-- PM(2), exponent underflow. -/
def State.maskUnderflow (s : State) : Bool := s.pm.getMsbD 2
/-- PM(3), significance. -/
def State.maskSignificance (s : State) : Bool := s.pm.getMsbD 3

/-- A maskable interruption, R455: it is taken only where its mask bit is 1. -/
def masked (bit : Bool) (k : Interruption) : Option Interruption := if bit then some k else none

/-- Whether a number is a 32-bit fixed-point number, R25. -/
def fits32 (v : Int) : Bool := decide (-2147483648 ≤ v) && decide (v ≤ 2147483647)

/-- Whether a number is a 64-bit fixed-point number, R25. -/
def fits64 (v : Int) : Bool := decide (-9223372036854775808 ≤ v) && decide (v ≤ 9223372036854775807)

/-- The condition code of an exact result: 3 where it overflows, R26. -/
def ccFixed (fits : Bool) (v : Int) : BitVec 2 := if fits then ccSigned v else 3

/-- Fixed-point overflow, R453. -/
def State.fixedOverflow (s : State) (fits : Bool) : Option Interruption :=
  if fits then none else masked s.maskFixed .fixedPointOverflow

/-- The end of a 32-bit fixed-point operation with an exact result, R131: the low 32 bits, CC, and the overflow. -/
def State.fixedResult (s : State) (r1 : Reg) (v : Int) (len : Nat) : Result :=
  ((s.setGr r1 (BitVec.ofInt 32 v)).setCc (ccFixed (fits32 v) v)).complete len (s.fixedOverflow (fits32 v))

/-- The end of an operation whose only result is CC. -/
def State.ccResult (s : State) (c : BitVec 2) (len : Nat) : Result := (s.setCc c).finish len

/-- The end of an operation that writes a general register and leaves CC. -/
def State.grResult (s : State) (r1 : Reg) (v : Word) (len : Nat) : Result := (s.setGr r1 v).finish len

/-- The end of an operation that writes a general register and CC and cannot overflow. -/
def State.grCcResult (s : State) (r1 : Reg) (v : Word) (c : BitVec 2) (len : Nat) : Result :=
  ((s.setGr r1 v).setCc c).finish len

end Sys2Proof.Machine
end

