-- ==== Sys2Proof/Machine/Branches.lean ====
section
/-! DEFINITION. The branches: the rules R136 to R148. The target is checked when it is fetched, R130. -/

namespace Sys2Proof.Machine

/-- The end of a branch instruction: a branch to t where c holds, else the next instruction, R130. The next address is that of
s, which no branch instruction changes before. -/
def State.branchIf (s : State) (c : Bool) (t : Word) (len : Nat) : Result :=
  if c then .next (s.branch t) else s.finish len

/-- Whether the mask selects the condition code, R142. -/
def State.ccSelected (s : State) (m : Mask) : Bool := m.getMsbD s.cc.toNat

/-- BALR, R137. -/
def execBalr (r1 r2 : Reg) (s : State) : Result := (s.setGr r1 (s.linkWord 2)).branchIf (r2 != 0) (s.getGr r2) 2

/-- BAL, R138. -/
def execBal (r1 x2 b2 : Reg) (d2 : Disp) (s : State) : Result :=
  (s.setGr r1 (s.linkWord 4)).branchIf true (s.addrx x2 b2 d2) 4

/-- BASR, R139. -/
def execBasr (r1 r2 : Reg) (s : State) : Result :=
  s.require s.cfg.has31Bit .operation ((s.setGr r1 (s.saveWord 2)).branchIf (r2 != 0) (s.getGr r2) 2)

/-- BAS, R140. -/
def execBas (r1 x2 b2 : Reg) (d2 : Disp) (s : State) : Result :=
  s.require s.cfg.has31Bit .operation ((s.setGr r1 (s.saveWord 4)).branchIf true (s.addrx x2 b2 d2) 4)

/-- A branch that takes the addressing mode from bit 0 of the target register, R141 and R146; with a field of 0 neither. -/
def State.branchSetMode (s : State) (r2 : Reg) (t : Word) (len : Nat) : Result :=
  if r2 = 0 then s.finish len else .next ({ s with amode := t.getMsbD 0 }.branch t)

/-- BASSM, R141. -/
def execBassm (r1 r2 : Reg) (s : State) : Result :=
  s.require s.cfg.has31Bit .operation ((s.setGr r1 (s.saveWord 2)).branchSetMode r2 (s.getGr r2) 2)

/-- BSM, R146: R1 takes the mode in bit 0, unless its field is 0. -/
def execBsm (r1 r2 : Reg) (s : State) : Result :=
  s.require s.cfg.has31Bit .operation
    ((if r1 = 0 then s else s.setGr r1 (bit0 s.amode ||| (s.getGr r1 &&& 0x7FFFFFFF))).branchSetMode r2 (s.getGr r2) 2)

/-- BCR, R142. -/
def execBcr (m1 : Mask) (r2 : Reg) (s : State) : Result := s.branchIf (s.ccSelected m1 && r2 != 0) (s.getGr r2) 2

/-- BC, R143. -/
def execBc (m1 : Mask) (x2 b2 : Reg) (d2 : Disp) (s : State) : Result := s.branchIf (s.ccSelected m1) (s.addrx x2 b2 d2) 4

/-- BCTR, R144. -/
def execBctr (r1 r2 : Reg) (s : State) : Result :=
  (s.setGr r1 (s.getGr r1 - 1)).branchIf (s.getGr r1 - 1 != 0 && r2 != 0) (s.getGr r2) 2

/-- BCT, R145. -/
def execBct (r1 x2 b2 : Reg) (d2 : Disp) (s : State) : Result :=
  (s.setGr r1 (s.getGr r1 - 1)).branchIf (s.getGr r1 - 1 != 0) (s.addrx x2 b2 d2) 4

/-- The comparand of BXH and BXLE, R147: R3+1 where R3 is even, else R3. -/
def State.comparand (s : State) (r3 : Reg) : Word := if isEven r3 then s.getGr (r3 + 1) else s.getGr r3

/-- BXH, R147: the sum wraps, the comparison is signed, and the comparand is read before R1 changes. -/
def execBxh (r1 r3 b2 : Reg) (d2 : Disp) (s : State) : Result :=
  (s.setGr r1 (s.getGr r1 + s.getGr r3)).branchIf ((s.comparand r3).slt (s.getGr r1 + s.getGr r3)) (s.addrx 0 b2 d2) 4

/-- BXLE, R148. -/
def execBxle (r1 r3 b2 : Reg) (d2 : Disp) (s : State) : Result :=
  (s.setGr r1 (s.getGr r1 + s.getGr r3)).branchIf ((s.getGr r1 + s.getGr r3).sle (s.comparand r3)) (s.addrx 0 b2 d2) 4

end Sys2Proof.Machine
end

