-- ==== Sys2Proof/Machine/Strings.lean ====
section
/-! DEFINITION. The storage-to-storage instructions that are not decimal, and MVCL and CLCL: the rules R177, R179, R180, R230, R235,
R242, R243, R245 to R247, R251, R255, R256, R310, R312, R313, R315 and R319. -/

namespace Sys2Proof.Machine

/-- The accesses an SS instruction checks before it stores: all of operand 1, then all of operand 2 for reading, R230. -/
def State.requireBoth (s : State) (k : Access) (l1 : Loc) (n1 : Nat) (l2 : Loc) (n2 : Nat) (r : Result) : Result :=
  s.require (s.allows k l1 n1) .addressTranslation (s.require (s.allows .read l2 n2) .addressTranslation r)

/-- The first n bytes of operand 1 replaced, left to right, each stored before the next byte is read, R230. -/
def State.combine (s : State) (f : Byte → Byte → Byte) (l1 l2 : Loc) (n : Nat) : State :=
  match n with
  | 0 => s
  | i + 1 =>
    let t := s.combine f l1 l2 i
    t.setByte l1 i (f (t.byteAt l1 i) (t.byteAt l2 i))

/-- MVC, R235. -/
def execMvc (l : Nat) (b1 : Reg) (d1 : Disp) (b2 : Reg) (d2 : Disp) (s : State) : Result :=
  s.requireBoth .write (s.opB b1 d1) l (s.opB b2 d2) l
    ((s.combine (fun _ y => y) (s.opB b1 d1) (s.opB b2 d2) l).finish 6)

/-- MVN, R245. -/
def execMvn (l : Nat) (b1 : Reg) (d1 : Disp) (b2 : Reg) (d2 : Disp) (s : State) : Result :=
  s.requireBoth .update (s.opB b1 d1) l (s.opB b2 d2) l
    ((s.combine (fun x y => nibbles (hiNibble x) (loNibble y)) (s.opB b1 d1) (s.opB b2 d2) l).finish 6)

/-- MVZ, R247. -/
def execMvz (l : Nat) (b1 : Reg) (d1 : Disp) (b2 : Reg) (d2 : Disp) (s : State) : Result :=
  s.requireBoth .update (s.opB b1 d1) l (s.opB b2 d2) l
    ((s.combine (fun x y => nibbles (hiNibble y) (loNibble x)) (s.opB b1 d1) (s.opB b2 d2) l).finish 6)

/-- The end of a connective over storage, R251: CC is 0 where all the stored bytes are zero. Each byte of operand 1 is stored
once, so the field holds them when the instruction ends. -/
def State.combineResult (s : State) (f : Byte → Byte → Byte) (l1 l2 : Loc) (n : Nat) : Result :=
  s.requireBoth .update l1 n l2 n
    (((s.combine f l1 l2 n).setCc (ccNonzero ((s.combine f l1 l2 n).value l1 n != 0))).finish 6)

/-- NC, R251. -/
def execNc (l : Nat) (b1 : Reg) (d1 : Disp) (b2 : Reg) (d2 : Disp) (s : State) : Result :=
  s.combineResult (fun x y => x &&& y) (s.opB b1 d1) (s.opB b2 d2) l

/-- OC, R255. -/
def execOc (l : Nat) (b1 : Reg) (d1 : Disp) (b2 : Reg) (d2 : Disp) (s : State) : Result :=
  s.combineResult (fun x y => x ||| y) (s.opB b1 d1) (s.opB b2 d2) l

/-- XC, R319. -/
def execXc (l : Nat) (b1 : Reg) (d1 : Disp) (b2 : Reg) (d2 : Disp) (s : State) : Result :=
  s.combineResult (fun x y => x ^^^ y) (s.opB b1 d1) (s.opB b2 d2) l

/-- The comparison of k bytes from byte i on, R177: it ends at the first unequal pair, and only what it reads must be
readable. -/
def State.compareBytes (s : State) (l1 l2 : Loc) (i k : Nat) : Except Interruption (BitVec 2) :=
  match k with
  | 0 => .ok 0
  | k + 1 =>
    if s.byteAllowed .read l1 i && s.byteAllowed .read l2 i then
      if s.byteAt l1 i = s.byteAt l2 i then s.compareBytes l1 l2 (i + 1) k
      else .ok (ccCompare (s.byteAt l1 i).toNat (s.byteAt l2 i).toNat)
    else .error .addressTranslation

/-- CLC, R177. -/
def execClc (l : Nat) (b1 : Reg) (d1 : Disp) (b2 : Reg) (d2 : Disp) (s : State) : Result :=
  s.withOperand (s.compareBytes (s.opB b1 d1) (s.opB b2 d2) 0 l) fun c => s.ccResult c 6

/-- The translation of k bytes from byte i on, R312: each function byte is stored before the next argument byte is read, and
only the table bytes addressed must be readable. -/
def State.translate (s : State) (l1 l2 : Loc) (i k : Nat) : Except Interruption State :=
  match k with
  | 0 => .ok s
  | k + 1 =>
    if s.byteAllowed .read l2 (s.byteAt l1 i).toNat then
      (s.setByte l1 i (s.byteAt l2 (s.byteAt l1 i).toNat)).translate l1 l2 (i + 1) k
    else .error .addressTranslation

/-- TR, R312. -/
def execTr (l : Nat) (b1 : Reg) (d1 : Disp) (b2 : Reg) (d2 : Disp) (s : State) : Result :=
  s.require (s.allows .update (s.opB b1 d1) l) .addressTranslation
    (s.withOperand (s.translate (s.opB b1 d1) (s.opB b2 d2) 0 l) fun t => t.finish 6)

/-- The search of TRT, R313: the first of k bytes from byte i on whose function byte is not zero, and that byte. -/
def State.translateTest (s : State) (l1 l2 : Loc) (i k : Nat) : Except Interruption (Option (Nat × Byte)) :=
  match k with
  | 0 => .ok none
  | k + 1 =>
    if s.byteAllowed .read l1 i && s.byteAllowed .read l2 (s.byteAt l1 i).toNat then
      if s.byteAt l2 (s.byteAt l1 i).toNat = 0 then s.translateTest l1 l2 (i + 1) k
      else .ok (some (i, s.byteAt l2 (s.byteAt l1 i).toNat))
    else .error .addressTranslation

/-- GR1 of TRT, R313: in 24-bit mode its left byte stays, in 31-bit mode its bit 0 becomes 0. -/
def State.trtAddress (s : State) (a : Word) : Word := if s.amode then a else (s.getGr 1 &&& 0xFF000000) ||| a

/-- TRT, R313. -/
def execTrt (l : Nat) (b1 : Reg) (d1 : Disp) (b2 : Reg) (d2 : Disp) (s : State) : Result :=
  s.withOperand (s.translateTest (s.opB b1 d1) (s.opB b2 d2) 0 l) fun x =>
    match x with
    | none => s.ccResult 0 6
    | some (i, fn) =>
      (((s.setGr 1 (s.trtAddress (trunc s.amode ((s.opB b1 d1).addr + BitVec.ofNat 32 i)))).setGr 2
        (setByteOf (s.getGr 2) 3 fn)).setCc (if i + 1 = l then 2 else 1)).finish 6

/-- MVO after its last byte, R246: i receiving bytes and j sending bytes are left, and a half-byte is carried. -/
def State.moveOffset (s : State) (l1 l2 : Loc) (i j : Nat) (carry : Nibble) : State :=
  match i, j with
  | 0, _ => s
  | i + 1, 0 => (s.setByte l1 i (nibbles 0 carry)).moveOffset l1 l2 i 0 0
  | i + 1, j + 1 =>
    (s.setByte l1 i (nibbles (loNibble (s.byteAt l2 j)) carry)).moveOffset l1 l2 i j (hiNibble (s.byteAt l2 j))

/-- MVO, R246. -/
def execMvo (l1 l2 : Nat) (b1 : Reg) (d1 : Disp) (b2 : Reg) (d2 : Disp) (s : State) : Result :=
  let p := s.opB b1 d1
  let q := s.opB b2 d2
  let last := s.byteAt q (l2 - 1)
  s.requireBoth .update p l1 q l2
    (((s.setByte p (l1 - 1) (nibbles (loNibble last) (loNibble (s.byteAt p (l1 - 1))))).moveOffset p q (l1 - 1) (l2 - 1)
      (hiNibble last)).finish 6)

/-- A digit of PACK, R256: the right half-byte of byte j - 1, or 0 where the sending field is used up. -/
def State.packDigit (s : State) (l2 : Loc) (j : Nat) : Nibble := if j = 0 then 0 else loNibble (s.byteAt l2 (j - 1))

/-- PACK after its last byte, R256: i receiving bytes and j sending bytes are left. -/
def State.pack (s : State) (l1 l2 : Loc) (i j : Nat) : State :=
  match i with
  | 0 => s
  | i + 1 => (s.setByte l1 i (nibbles (s.packDigit l2 (j - 1)) (s.packDigit l2 j))).pack l1 l2 i (j - 2)

/-- PACK, R256. -/
def execPack (l1 l2 : Nat) (b1 : Reg) (d1 : Disp) (b2 : Reg) (d2 : Disp) (s : State) : Result :=
  let p := s.opB b1 d1
  let q := s.opB b2 d2
  let last := s.byteAt q (l2 - 1)
  s.requireBoth .write p l1 q l2
    (((s.setByte p (l1 - 1) (nibbles (loNibble last) (hiNibble last))).pack p q (l1 - 1) (l2 - 1)).finish 6)

/-- UNPK after its last byte, R315: i receiving bytes and j sending bytes are left, and a left half-byte may be pending. -/
def State.unpack (s : State) (l1 l2 : Loc) (i j : Nat) (pending : Option Nibble) : State :=
  match i, j, pending with
  | 0, _, _ => s
  | i + 1, j, some d => (s.setByte l1 i (nibbles 15 d)).unpack l1 l2 i j none
  | i + 1, 0, none => (s.setByte l1 i (nibbles 15 0)).unpack l1 l2 i 0 none
  | i + 1, j + 1, none =>
    (s.setByte l1 i (nibbles 15 (loNibble (s.byteAt l2 j)))).unpack l1 l2 i j (some (hiNibble (s.byteAt l2 j)))

/-- UNPK, R315. -/
def execUnpk (l1 l2 : Nat) (b1 : Reg) (d1 : Disp) (b2 : Reg) (d2 : Disp) (s : State) : Result :=
  let p := s.opB b1 d1
  let q := s.opB b2 d2
  let last := s.byteAt q (l2 - 1)
  s.requireBoth .write p l1 q l2
    (((s.setByte p (l1 - 1) (nibbles (loNibble last) (hiNibble last))).unpack p q (l1 - 1) (l2 - 1) none).finish 6)

/-! ## MVCL and CLCL -/

/-- The length in the odd register of a pair, R179 and R242. -/
def State.longLength (s : State) (r : Reg) : Nat := lowLength (s.getGr (r + 1))

/-- The pad byte, R179 and R242. -/
def State.padByte (s : State) (r2 : Reg) : Byte := byteOf (s.getGr (r2 + 1)) 0

/-- The register pairs of t after k1 bytes of operand 1 and k2 bytes of operand 2, R180 and R243, counted from what they hold
in s: addresses up, lengths down. -/
def State.longProgress (s : State) (t : State) (r1 r2 : Reg) (k1 k2 : Nat) : State :=
  (((t.setGr r1 (trunc s.amode (s.getGr r1 + BitVec.ofNat 32 k1))).setGr (r1 + 1)
    (setLowLength (s.getGr (r1 + 1)) (s.longLength r1 - k1))).setGr r2
    (trunc s.amode (s.getGr r2 + BitVec.ofNat 32 k2))).setGr (r2 + 1)
    (setLowLength (s.getGr (r2 + 1)) (s.longLength r2 - k2))

/-- The move of MVCL from byte i on, with k bytes of operand 1 left: from operand 2 while it lasts (n2 bytes), then the pad byte.
It ends before the first byte that cannot be accessed. The answer is the state and the number of bytes of operand 1 done. -/
def State.moveLong (s : State) (l1 l2 : Loc) (n2 : Nat) (pad : Byte) (i k : Nat) : State × Nat :=
  match k with
  | 0 => (s, i)
  | k + 1 =>
    if (decide (n2 ≤ i) || s.byteAllowed .read l2 i) && s.byteAllowed .write l1 i then
      (s.setByte l1 i (if i < n2 then s.byteAt l2 i else pad)).moveLong l1 l2 n2 pad (i + 1) k
    else (s, i)

/-- Destructive overlap, R243: tested on the addresses and lengths of the registers only, with plain sums (D18). -/
def destructive (a1 a2 n1 n2 : Nat) : Bool := decide (a2 < a1) && decide (a1 < a2 + min n1 n2)

/-- The condition code of MVCL by the two lengths, R243. -/
def State.mvclResult (s : State) (r1 r2 : Reg) (x : State × Nat) : Result :=
  if x.2 = s.longLength r1 then
    ((s.longProgress x.1 r1 r2 x.2 (min x.2 (s.longLength r2))).setCc
      (ccCompare (s.longLength r1) (s.longLength r2))).finish 2
  else (s.longProgress x.1 r1 r2 x.2 (min x.2 (s.longLength r2))).interrupt .addressTranslation

/-- MVCL, R243, in one step (D12, log 20). -/
def execMvcl (r1 r2 : Reg) (s : State) : Result :=
  s.require (isEven r1 && isEven r2) .specification
    (if destructive (s.opR r1).addr.toNat (s.opR r2).addr.toNat (s.longLength r1) (s.longLength r2) then s.ccResult 3 2
     else s.mvclResult r1 r2
      (s.moveLong (s.opR r1) (s.opR r2) (s.longLength r2) (s.padByte r2) 0 (s.longLength r1)))

/-- The comparison of CLCL from byte i on, with k bytes of the longer operand left, R180: how many bytes were equal, and the
condition code, or the interruption at a byte that cannot be read. -/
def State.compareLong (s : State) (l1 l2 : Loc) (n1 n2 : Nat) (pad : Byte) (i k : Nat) : Nat × Except Interruption (BitVec 2) :=
  match k with
  | 0 => (i, .ok 0)
  | k + 1 =>
    if (decide (n1 ≤ i) || s.byteAllowed .read l1 i) && (decide (n2 ≤ i) || s.byteAllowed .read l2 i) then
      if (if i < n1 then s.byteAt l1 i else pad) = (if i < n2 then s.byteAt l2 i else pad) then
        s.compareLong l1 l2 n1 n2 pad (i + 1) k
      else (i, .ok (ccCompare (if i < n1 then s.byteAt l1 i else pad).toNat (if i < n2 then s.byteAt l2 i else pad).toNat))
    else (i, .error .addressTranslation)

/-- The end of CLCL, R180: the pairs show the progress, also where a byte could not be read. -/
def State.clclResult (s : State) (r1 r2 : Reg) (x : Nat × Except Interruption (BitVec 2)) : Result :=
  let t := s.longProgress s r1 r2 (min x.1 (s.longLength r1)) (min x.1 (s.longLength r2))
  match x.2 with
  | .ok c => t.ccResult c 2
  | .error k => t.interrupt k

/-- CLCL, R180, in one step (D12, log 20). -/
def execClcl (r1 r2 : Reg) (s : State) : Result :=
  s.require (isEven r1 && isEven r2) .specification
    (s.clclResult r1 r2
      (s.compareLong (s.opR r1) (s.opR r2) (s.longLength r1) (s.longLength r2) (s.padByte r2) 0
        (max (s.longLength r1) (s.longLength r2))))

end Sys2Proof.Machine
end

