-- ==== Sys2Proof/Machine/Decimal.lean ====
section
/-! DEFINITION. The decimal instructions, CVB and CVD: the rules R183, R184, R332 to R343. A field of n bytes is its unsigned
big-endian number (R58); its last half-byte is the sign and the 2n - 1 before it are the digits. -/

namespace Sys2Proof.Machine

/-! ## The packed format -/

/-- Whether the low n half-bytes of a number are decimal digits. -/
def digitsOk (n v : Nat) : Bool :=
  match n with
  | 0 => true
  | k + 1 => decide (v % 16 ≤ 9) && digitsOk k (v / 16)

/-- The number that the low n half-bytes spell in decimal. -/
def digitsVal (n v : Nat) : Nat :=
  match n with
  | 0 => 0
  | k + 1 => digitsVal k (v / 16) * 10 + v % 16

/-- A number as n half-bytes of decimal digits, its low n digits. -/
def digitsOf (n m : Nat) : Nat :=
  match n with
  | 0 => 0
  | k + 1 => digitsOf k (m / 10) * 16 + m % 10

/-- valid(F) of R332, for a field of n bytes. -/
def decValid (n v : Nat) : Bool := digitsOk (2 * n - 1) (v / 16) && decide (10 ≤ v % 16)

/-- neg(F) of R332 and R333. -/
def decNeg (v : Nat) : Bool := v % 16 == 11 || v % 16 == 13

/-- mag(F) of R332. -/
def decMag (n v : Nat) : Nat := digitsVal (2 * n - 1) (v / 16)

/-- val(F) of R332. -/
def decVal (n v : Nat) : Int := if decNeg v then -(decMag n v : Int) else (decMag n v : Int)

/-- enc(L, m, ng) of R332. -/
def decEnc (n m : Nat) (neg : Bool) : Nat := digitsOf (2 * n - 1) m * 16 + (if neg then 13 else 12)

/-- How many numbers a field of n bytes holds, 10^(2n - 1). -/
def decLimit (n : Nat) : Nat := 10 ^ (2 * n - 1)

/-! ## The rules common to the decimal instructions, R334 -/

/-- Whether two operands share a byte. -/
def overlaps (l1 : Loc) (n1 : Nat) (l2 : Loc) (n2 : Nat) : Bool :=
  (List.range n1).any fun i => (List.range n2).any fun j => (l1.key i).isSome && l1.key i == l2.key j

/-- The overlap of R334(d): a shared byte, and the rightmost bytes differ. -/
def badOverlap (l1 : Loc) (n1 : Nat) (l2 : Loc) (n2 : Nat) : Bool :=
  overlaps l1 n1 l2 n2 && l1.at (n1 - 1) != l2.at (n2 - 1)

/-- The checks of R334(a), (b) and (d), and then an operation on the two fields. -/
def State.decimals (s : State) (k : Access) (l1 : Loc) (n1 : Nat) (l2 : Loc) (n2 : Nat) (f : Nat → Nat → Result) : Result :=
  s.requireBoth k l1 n1 l2 n2
    (s.require (!badOverlap l1 n1 l2 n2) .data
      (s.require (decValid n1 (s.value l1 n1) && decValid n2 (s.value l2 n2)) .data (f (s.value l1 n1) (s.value l2 n2))))

/-- Decimal overflow, R334(f). -/
def State.decimalOverflow (s : State) (fits : Bool) : Option Interruption :=
  if fits then none else masked s.maskDecimal .decimalOverflow

/-- The end of AP, SP and ZAP, R335: the low digits of an exact result, its sign, CC and the overflow. -/
def State.decimalResult (s : State) (l1 : Loc) (n1 : Nat) (v : Int) : Result :=
  let ok := decide (v.natAbs < decLimit n1)
  ((s.store l1 n1 (decEnc n1 (v.natAbs % decLimit n1) (decide (v < 0)))).setCc (ccFixed ok v)).complete 6
    (s.decimalOverflow ok)

/-- AP, R335. -/
def execAp (l1 l2 : Nat) (b1 : Reg) (d1 : Disp) (b2 : Reg) (d2 : Disp) (s : State) : Result :=
  s.decimals .update (s.opB b1 d1) l1 (s.opB b2 d2) l2 fun x y =>
    s.decimalResult (s.opB b1 d1) l1 (decVal l1 x + decVal l2 y)

/-- SP, R341. -/
def execSp (l1 l2 : Nat) (b1 : Reg) (d1 : Disp) (b2 : Reg) (d2 : Disp) (s : State) : Result :=
  s.decimals .update (s.opB b1 d1) l1 (s.opB b2 d2) l2 fun x y =>
    s.decimalResult (s.opB b1 d1) l1 (decVal l1 x - decVal l2 y)

/-- CP, R336. -/
def execCp (l1 l2 : Nat) (b1 : Reg) (d1 : Disp) (b2 : Reg) (d2 : Disp) (s : State) : Result :=
  s.decimals .read (s.opB b1 d1) l1 (s.opB b2 d2) l2 fun x y => s.ccResult (ccCompare (decVal l1 x) (decVal l2 y)) 6

/-- The free bytes of one instruction: byte i is number i. Log 13. -/
def State.storeFree (s : State) (l : Loc) (n : Nat) : State :=
  match n with
  | 0 => s
  | i + 1 => (s.storeFree l i).setByte l i (Config.freeByte (256 * s.free + i))

/-- Whether ZAP's result is open, R343 and U7: the operands share a byte and operand 1 ends to the right of operand 2. -/
def zapOpen (l1 : Loc) (n1 : Nat) (l2 : Loc) (n2 : Nat) : Bool :=
  overlaps l1 n1 l2 n2 &&
    (decide (l2.addr.toNat + n2 < l1.addr.toNat + n1) || decide (l2.at (n2 - 1) < l1.at (n1 - 1)))

/-- ZAP, R343. Where the overlap leaves the result open (U7), operand 1 and CC are free (log 22). -/
def execZap (l1 l2 : Nat) (b1 : Reg) (d1 : Disp) (b2 : Reg) (d2 : Disp) (s : State) : Result :=
  let p := s.opB b1 d1
  let q := s.opB b2 d2
  s.requireBoth .write p l1 q l2
    (s.require (decValid l2 (s.value q l2)) .data
      (if zapOpen p l1 q l2 then
        (((s.storeFree p l1).setCc (Config.freeCc s.free)).useFree).complete 6
          (s.decimalOverflow (decide (decMag l2 (s.value q l2) < decLimit l1)))
       else s.decimalResult p l1 (decVal l2 (s.value q l2))))

/-- The lengths that MP and DP accept, R337 and R340. -/
def lengthsOk (n1 n2 : Nat) : Bool := decide (n2 ≤ 8) && decide (n2 < n1)

/-- MP, R340. -/
def execMp (l1 l2 : Nat) (b1 : Reg) (d1 : Disp) (b2 : Reg) (d2 : Disp) (s : State) : Result :=
  s.require (lengthsOk l1 l2) .specification
    (s.decimals .update (s.opB b1 d1) l1 (s.opB b2 d2) l2 fun x y =>
      s.require (x / 256 ^ (l1 - l2) == 0) .data
        ((s.store (s.opB b1 d1) l1 (decEnc l1 (decMag l1 x * decMag l2 y) (decNeg x != decNeg y))).finish 6))

/-- The dividend field after DP, R337: the quotient in the left n1 - n2 bytes, the remainder in the right n2. -/
def divideFields (n1 n2 x y : Nat) : Nat :=
  decEnc (n1 - n2) (decMag n1 x / decMag n2 y) (decNeg x != decNeg y) * 256 ^ n2 +
    decEnc n2 (decMag n1 x % decMag n2 y) (decNeg x)

/-- DP, R337. -/
def execDp (l1 l2 : Nat) (b1 : Reg) (d1 : Disp) (b2 : Reg) (d2 : Disp) (s : State) : Result :=
  s.require (lengthsOk l1 l2) .specification
    (s.decimals .update (s.opB b1 d1) l1 (s.opB b2 d2) l2 fun x y =>
      s.require (decMag l2 y != 0 && decide (decMag l1 x / decMag l2 y < decLimit (l1 - l2))) .divide
        ((s.store (s.opB b1 d1) l1 (divideFields l1 l2 x y)).finish 6))

/-! ## SRP, R342 -/

/-- The magnitude after the shift by the 6-bit count b, before it is cut to the field: left by b up to 31, else right by 64 - b
with rounding. -/
def srpShift (v b round : Nat) : Nat :=
  if b ≤ 31 then v * 10 ^ b
  else v / 10 ^ (64 - b) + (if 10 ≤ v / 10 ^ (63 - b) % 10 + round then 1 else 0)

/-- The condition code of SRP, R342. -/
def ccShifted (fits neg : Bool) (r : Nat) : BitVec 2 := if !fits then 3 else if r = 0 then 0 else if neg then 1 else 2

/-- SRP, R342: the sign code stays. -/
def execSrp (l1 : Nat) (b1 : Reg) (d1 : Disp) (b2 : Reg) (d2 : Disp) (i3 : Nibble) (s : State) : Result :=
  let p := s.opB b1 d1
  let x := s.value p l1
  let w := srpShift (decMag l1 x) ((s.addrx 0 b2 d2).toNat % 64) i3.toNat
  let ok := decide (w < decLimit l1)
  let r := w % decLimit l1
  s.require (s.allows .update p l1) .addressTranslation
    (s.require (decValid l1 x && decide (i3.toNat ≤ 9)) .data
      (((s.store p l1 (digitsOf (2 * l1 - 1) r * 16 + x % 16)).setCc (ccShifted ok (decNeg x) r)).complete 6
        (s.decimalOverflow ok)))

/-! ## ED and EDMK, R338 and R339 -/

/-- What an edit keeps from one pattern byte to the next. -/
structure EditState where
  /-- The next source byte. -/
  k : Nat
  /-- A right half-byte still to be used. -/
  pending : Option Nibble
  /-- The significance indicator. -/
  sig : Bool
  /-- A digit other than 0 was examined in the current field. -/
  nz : Bool
  /-- The pattern byte at which EDMK last marked a digit. -/
  mark : Option Nat
  /-- The result bytes so far, as one big-endian number. -/
  out : Nat
deriving DecidableEq, Repr

/-- The next source digit, whether a plus sign follows it, and the state after it, R338. -/
def State.editDigit (s : State) (l2 : Loc) (e : EditState) : Except Interruption (Nibble × Bool × EditState) :=
  match e.pending with
  | some d => .ok (d, false, { e with pending := none })
  | none =>
    if s.byteAllowed .read l2 e.k then
      let b := s.byteAt l2 e.k
      if 9 < (hiNibble b).toNat then .error .data
      else if 10 ≤ (loNibble b).toNat then
        .ok (hiNibble b, !decNeg b.toNat, { e with k := e.k + 1 })
      else .ok (hiNibble b, false, { e with k := e.k + 1, pending := some (loNibble b) })
    else .error .addressTranslation

/-- One more result byte. -/
def EditState.put (e : EditState) (b : Byte) : EditState := { e with out := e.out * 256 + b.toNat }

/-- A digit selector (X'20') or significance starter (X'21') at pattern byte i, R338 and R339. -/
def editSelect (fill m : Byte) (i : Nat) (e : EditState) (d : Nibble) (plus : Bool) : EditState :=
  { e.put (if !e.sig && d == 0 then fill else nibbles 15 d) with
    sig := !plus && (e.sig || m == 0x21 || d != 0)
    nz := e.nz || d != 0
    mark := if !e.sig && d != 0 then some i else e.mark }

/-- One pattern byte, R338. -/
def State.editByte (s : State) (l2 : Loc) (fill m : Byte) (i : Nat) (e : EditState) : Except Interruption EditState :=
  if m = 0x20 ∨ m = 0x21 then
    match s.editDigit l2 e with
    | .ok (d, plus, e') => .ok (editSelect fill m i e' d plus)
    | .error k => .error k
  else if m = 0x22 then .ok { e.put fill with sig := false, nz := false }
  else .ok (e.put (if e.sig then m else fill))

/-- The first n pattern bytes, left to right, R338. -/
def State.edit (s : State) (l1 l2 : Loc) (n : Nat) : Except Interruption EditState :=
  match n with
  | 0 => .ok { k := 0, pending := none, sig := false, nz := false, mark := none, out := 0 }
  | i + 1 =>
    match s.edit l1 l2 i with
    | .ok e => s.editByte l2 (s.byteAt l1 0) (s.byteAt l1 i) i e
    | .error k => .error k

/-- The condition code of ED and EDMK, R338. -/
def EditState.cc (e : EditState) : BitVec 2 := if !e.nz then 0 else if e.sig then 1 else 2

/-- ED and EDMK, R338. Where a source byte that is fetched lies in the pattern (U8), the pattern and CC are free, and what
follows is told so (log 23). -/
def State.editResult (s : State) (l1 l2 : Loc) (n : Nat) (after : Bool → EditState → State → State) : Result :=
  s.require (s.allows .update l1 n) .addressTranslation
    (s.withOperand (s.edit l1 l2 n) fun e =>
      if overlaps l1 n l2 e.k then
        (after true e (((s.storeFree l1 n).setCc (Config.freeCc s.free)).useFree)).finish 6
      else (after false e ((s.store l1 n e.out).setCc e.cc)).finish 6)

/-- ED, R338. -/
def execEd (l : Nat) (b1 : Reg) (d1 : Disp) (b2 : Reg) (d2 : Disp) (s : State) : Result :=
  s.editResult (s.opB b1 d1) (s.opB b2 d2) l fun _ _ t => t

/-- GR1 of EDMK, R339: the bits to the left of the address stay. -/
def State.markAddress (s : State) (a : Word) : Word := (s.getGr 1 &&& ~~~addrMask s.amode) ||| a

/-- EDMK, R339. -/
def execEdmk (l : Nat) (b1 : Reg) (d1 : Disp) (b2 : Reg) (d2 : Disp) (s : State) : Result :=
  s.editResult (s.opB b1 d1) (s.opB b2 d2) l fun isOpen e t =>
    if isOpen then t.setGr 1 (Config.freeWord (2 * s.free))
    else match e.mark with
      | none => t
      | some i => t.setGr 1 (s.markAddress (trunc s.amode ((s.opB b1 d1).addr + BitVec.ofNat 32 i)))

/-! ## CVB and CVD -/

/-- CVB, R183: the low 32 bits, and a division interruption where the number does not fit. -/
def execCvb (r1 x2 b2 : Reg) (d2 : Disp) (s : State) : Result :=
  s.withOperand (s.readAligned (s.opX x2 b2 d2) 8) fun x =>
    s.require (decValid 8 x) .data
      ((s.setGr r1 (BitVec.ofInt 32 (decVal 8 x))).complete 4
        (if fits32 (decVal 8 x) then none else some .divide))

/-- CVD, R184: zero has the sign C (D17, log 35). -/
def execCvd (r1 x2 b2 : Reg) (d2 : Disp) (s : State) : Result :=
  s.withOperand
    (s.writeAligned (s.opX x2 b2 d2) 8 (decEnc 8 (s.getGr r1).toInt.natAbs (decide ((s.getGr r1).toInt < 0)))) fun t =>
    t.finish 4

end Sys2Proof.Machine
end

