-- ==== Sys2Proof/Machine/LoadStore.lean ====
section
/-! DEFINITION. Loads, inserts and stores of general registers: the rules R204, R205, R208 to R210, R212, R213, R286 to R288, R297 and
R298. -/

namespace Sys2Proof.Machine

/-- LR, R208. -/
def execLr (r1 r2 : Reg) (s : State) : Result := s.grResult r1 (s.getGr r2) 2

/-- L, R209. -/
def execL (r1 x2 b2 : Reg) (d2 : Disp) (s : State) : Result :=
  s.withOperand (s.readW (s.opX x2 b2 d2)) fun y => s.grResult r1 y 4

/-- LA, R210: the address itself, no access. -/
def execLa (r1 x2 b2 : Reg) (d2 : Disp) (s : State) : Result := s.grResult r1 (s.addrx x2 b2 d2) 4

/-- LH, R212. -/
def execLh (r1 x2 b2 : Reg) (d2 : Disp) (s : State) : Result :=
  s.withOperand (s.readH (s.opX x2 b2 d2)) fun y => s.grResult r1 (y.signExtend 32) 4

/-- The words that LM and LAM read: aligned, and all of them accessible before one is loaded, R213 and R426. -/
def State.readWords (s : State) (l : Loc) (n : Nat) : Except Interruption Nat :=
  if s.misaligned l 4 then .error .specification else s.read l (4 * n)

/-- The words that STM and STAM write: aligned, and all of them accessible before one is stored, R298 and R429. -/
def State.writeWords (s : State) (l : Loc) (n v : Nat) : Except Interruption State :=
  if s.misaligned l 4 then .error .specification else s.write l (4 * n) v

/-- LM, R213. -/
def execLm (r1 r3 b2 : Reg) (d2 : Disp) (s : State) : Result :=
  s.withOperand (s.readWords (s.opB b2 d2) (regCount r1 r3)) fun v => (s.setGrRange r1 (regCount r1 r3) v).finish 4

/-- IC, R204. -/
def execIc (r1 x2 b2 : Reg) (d2 : Disp) (s : State) : Result :=
  s.withOperand (s.readB (s.opX x2 b2 d2)) fun y => s.grResult r1 (setByteOf (s.getGr r1) 3 y) 4

/-- The condition code of ICM, R205: by the inserted field as a number of n bytes. -/
def ccInserted (n v : Nat) : BitVec 2 := if v = 0 then 0 else if 2 ^ (8 * n - 1) ≤ v then 1 else 2

/-- ICM, R205. With no byte selected, one byte at the address must be readable. -/
def execIcm (r1 : Reg) (m3 : Mask) (b2 : Reg) (d2 : Disp) (s : State) : Result :=
  if m3 = 0 then s.withOperand (s.read (s.opB b2 d2) 1) fun _ => s.ccResult 0 4
  else s.withOperand (s.read (s.opB b2 d2) (maskCount m3)) fun v =>
    s.grCcResult r1 (insertBytes (s.getGr r1) (maskBytes m3) v) (ccInserted (maskCount m3) v) 4

/-- ST, R286. -/
def execSt (r1 x2 b2 : Reg) (d2 : Disp) (s : State) : Result :=
  s.withOperand (s.writeAligned (s.opX x2 b2 d2) 4 (s.getGr r1).toNat) fun t => t.finish 4

/-- STH, R287. -/
def execSth (r1 x2 b2 : Reg) (d2 : Disp) (s : State) : Result :=
  s.withOperand (s.writeAligned (s.opX x2 b2 d2) 2 ((s.getGr r1).extractLsb' 0 16).toNat) fun t => t.finish 4

/-- STC, R288. -/
def execStc (r1 x2 b2 : Reg) (d2 : Disp) (s : State) : Result :=
  s.withOperand (s.write (s.opX x2 b2 d2) 1 ((s.getGr r1).extractLsb' 0 8).toNat) fun t => t.finish 4

/-- STCM, R297. With no byte selected nothing is accessed. -/
def execStcm (r1 : Reg) (m3 : Mask) (b2 : Reg) (d2 : Disp) (s : State) : Result :=
  s.withOperand (s.write (s.opB b2 d2) (maskCount m3) (selectBytes (s.getGr r1) (maskBytes m3) 0)) fun t => t.finish 4

/-- STM, R298. -/
def execStm (r1 r3 b2 : Reg) (d2 : Disp) (s : State) : Result :=
  s.withOperand (s.writeWords (s.opB b2 d2) (regCount r1 r3) (s.grRange r1 (regCount r1 r3))) fun t => t.finish 4

end Sys2Proof.Machine
end

