-- ==== Sys2Proof/Machine/Esa.lean ====
section
/-! DEFINITION. The ESA instructions: the rules R420 to R430. Without HAS_ESA each is a privileged operation, R113 and R443. -/

namespace Sys2Proof.Machine

/-- The availability of the ESA group, R113. -/
def State.requireEsa (s : State) (r : Result) : Result := s.require s.cfg.hasEsa .privilegedOperation r

/-- CPYA, R421. -/
def execCpya (r1 r2 : Reg) (s : State) : Result := s.requireEsa ((s.setAr r1 (s.getAr r2)).finish 4)

/-- EAR, R422. -/
def execEar (r1 r2 : Reg) (s : State) : Result := s.requireEsa (s.grResult r1 (s.getAr r2) 4)

/-- SAR, R427. -/
def execSar (r1 r2 : Reg) (s : State) : Result := s.requireEsa ((s.setAr r1 (s.getGr r2)).finish 4)

/-- IAC, R424: byte 2 of R1 takes X'00' or X'02'. -/
def execIac (r1 : Reg) (s : State) : Result :=
  s.requireEsa (s.grCcResult r1 (setByteOf (s.getGr r1) 2 (if s.asc then 2 else 0)) (if s.asc then 2 else 0) 4)

/-- Whether LAE's results are open, R425 and U9: AR mode, a base, and bits 0 to 6 of its access register not all zero. -/
def State.laeOpen (s : State) (b2 : Reg) : Bool := s.asc && b2 != 0 && (s.getAr b2).extractLsb' 25 7 != 0

/-- LAE, R425. Where the results are open (U9) both registers take free words (log 24). -/
def execLae (r1 x2 b2 : Reg) (d2 : Disp) (s : State) : Result :=
  s.requireEsa
    (if s.laeOpen b2 then
      (((s.setGr r1 (Config.freeWord (2 * s.free))).setAr r1 (Config.freeWord (2 * s.free + 1))).useFree).finish 4
     else
      ((s.setGr r1 (s.addrx x2 b2 d2)).setAr r1 (if s.asc && b2 != 0 then s.getAr b2 else 0)).finish 4)

/-- LAM, R426. -/
def execLam (r1 r3 b2 : Reg) (d2 : Disp) (s : State) : Result :=
  s.requireEsa (s.withOperand (s.readWords (s.opB b2 d2) (regCount r1 r3)) fun v =>
    (s.setArRange r1 (regCount r1 r3) v).finish 4)

/-- STAM, R429. -/
def execStam (r1 r3 b2 : Reg) (d2 : Disp) (s : State) : Result :=
  s.requireEsa (s.withOperand (s.writeWords (s.opB b2 d2) (regCount r1 r3) (s.arRange r1 (regCount r1 r3))) fun t =>
    t.finish 4)

/-- The code of SAC, R428: bits 20 to 23 of the operand address. -/
def State.sacCode (s : State) (b2 : Reg) (d2 : Disp) : Nibble := (s.addrSum 0 b2 d2).extractLsb' 8 4

/-- SAC, R428. The codes that the manual does not define are refused (U10, log 25). -/
def execSac (b2 : Reg) (d2 : Disp) (s : State) : Result :=
  s.requireEsa
    (if s.sacCode b2 d2 = 0 then ({ s with asc := false } : State).finish 4
     else if s.sacCode b2 d2 = 2 then ({ s with asc := true } : State).finish 4
     else .refused (.sacUndefinedCode (s.sacCode b2 d2)))

/-- The condition code of TAR, R430. -/
def State.ccAlet (s : State) (alet : Word) : BitVec 2 :=
  if alet = 0 then 0
  else match s.accessList.find? (fun e => e.alet == alet) with
    | none => 3
    | some e => if e.class2 then 2 else 1

/-- TAR, R430; R2 is not used. -/
def execTar (r1 _r2 : Reg) (s : State) : Result := s.requireEsa (s.ccResult (s.ccAlet (s.getAr r1)) 4)

end Sys2Proof.Machine
end

