-- ==== Sys2Proof/Machine/FixedPoint.lean ====
section
/-! DEFINITION. Fixed-point arithmetic and comparison: the rules R131 to R135, R171 to R175, R201, R202, R211 to R216, R231, R232,
R234 and R271 to R275. -/

namespace Sys2Proof.Machine

/-- AR, R131. -/
def execAr (r1 r2 : Reg) (s : State) : Result := s.fixedResult r1 ((s.getGr r1).toInt + (s.getGr r2).toInt) 2

/-- A, R132. -/
def execA (r1 x2 b2 : Reg) (d2 : Disp) (s : State) : Result :=
  s.withOperand (s.readW (s.opX x2 b2 d2)) fun y => s.fixedResult r1 ((s.getGr r1).toInt + y.toInt) 4

/-- AH, R133: the halfword is sign-extended. -/
def execAh (r1 x2 b2 : Reg) (d2 : Disp) (s : State) : Result :=
  s.withOperand (s.readH (s.opX x2 b2 d2)) fun y => s.fixedResult r1 ((s.getGr r1).toInt + y.toInt) 4

/-- ALR, R134. -/
def execAlr (r1 r2 : Reg) (s : State) : Result :=
  s.grCcResult r1 (s.getGr r1 + s.getGr r2) (ccAddLogical (s.getGr r1) (s.getGr r2)) 2

/-- AL, R135. -/
def execAl (r1 x2 b2 : Reg) (d2 : Disp) (s : State) : Result :=
  s.withOperand (s.readW (s.opX x2 b2 d2)) fun y => s.grCcResult r1 (s.getGr r1 + y) (ccAddLogical (s.getGr r1) y) 4

/-- SR, R271. -/
def execSr (r1 r2 : Reg) (s : State) : Result := s.fixedResult r1 ((s.getGr r1).toInt - (s.getGr r2).toInt) 2

/-- S, R272. -/
def execS (r1 x2 b2 : Reg) (d2 : Disp) (s : State) : Result :=
  s.withOperand (s.readW (s.opX x2 b2 d2)) fun y => s.fixedResult r1 ((s.getGr r1).toInt - y.toInt) 4

/-- SH, R273. -/
def execSh (r1 x2 b2 : Reg) (d2 : Disp) (s : State) : Result :=
  s.withOperand (s.readH (s.opX x2 b2 d2)) fun y => s.fixedResult r1 ((s.getGr r1).toInt - y.toInt) 4

/-- SLR, R274. -/
def execSlr (r1 r2 : Reg) (s : State) : Result :=
  s.grCcResult r1 (s.getGr r1 - s.getGr r2) (ccSubLogical (s.getGr r1) (s.getGr r2)) 2

/-- SL, R275. -/
def execSl (r1 x2 b2 : Reg) (d2 : Disp) (s : State) : Result :=
  s.withOperand (s.readW (s.opX x2 b2 d2)) fun y => s.grCcResult r1 (s.getGr r1 - y) (ccSubLogical (s.getGr r1) y) 4

/-- CR, R171. -/
def execCr (r1 r2 : Reg) (s : State) : Result := s.ccResult (ccCompare (s.getGr r1).toInt (s.getGr r2).toInt) 2

/-- C, R172. -/
def execC (r1 x2 b2 : Reg) (d2 : Disp) (s : State) : Result :=
  s.withOperand (s.readW (s.opX x2 b2 d2)) fun y => s.ccResult (ccCompare (s.getGr r1).toInt y.toInt) 4

/-- CH, R173. -/
def execCh (r1 x2 b2 : Reg) (d2 : Disp) (s : State) : Result :=
  s.withOperand (s.readH (s.opX x2 b2 d2)) fun y => s.ccResult (ccCompare (s.getGr r1).toInt y.toInt) 4

/-- CLR, R174. -/
def execClr (r1 r2 : Reg) (s : State) : Result := s.ccResult (ccCompare (s.getGr r1).toNat (s.getGr r2).toNat) 2

/-- CL, R175. -/
def execCl (r1 x2 b2 : Reg) (d2 : Disp) (s : State) : Result :=
  s.withOperand (s.readW (s.opX x2 b2 d2)) fun y => s.ccResult (ccCompare (s.getGr r1).toNat y.toNat) 4

/-- The product of a multiplication into a register pair, R231. -/
def State.product (s : State) (r1 : Reg) (y : Word) (len : Nat) : Result :=
  (s.setPair r1 (BitVec.ofInt 64 ((s.getGr (r1 + 1)).toInt * y.toInt))).finish len

/-- MR, R231. -/
def execMr (r1 r2 : Reg) (s : State) : Result := s.require (isEven r1) .specification (s.product r1 (s.getGr r2) 2)

/-- M, R232. -/
def execM (r1 x2 b2 : Reg) (d2 : Disp) (s : State) : Result :=
  s.require (isEven r1) .specification (s.withOperand (s.readW (s.opX x2 b2 d2)) fun y => s.product r1 y 4)

/-- MH, R234: the low 32 bits of the product. -/
def execMh (r1 x2 b2 : Reg) (d2 : Disp) (s : State) : Result :=
  s.withOperand (s.readH (s.opX x2 b2 d2)) fun y => s.grResult r1 (BitVec.ofInt 32 ((s.getGr r1).toInt * y.toInt)) 4

/-- A division of a register pair, R201: the quotient is rounded toward zero; R1 takes the remainder, R1+1 the quotient. -/
def State.quotient (s : State) (r1 : Reg) (y : Word) (len : Nat) : Result :=
  s.require (y != 0 && fits32 ((s.getPair r1).toInt.tdiv y.toInt)) .divide
    (((s.setGr r1 (BitVec.ofInt 32 ((s.getPair r1).toInt.tmod y.toInt))).setGr (r1 + 1)
      (BitVec.ofInt 32 ((s.getPair r1).toInt.tdiv y.toInt))).finish len)

/-- DR, R201. -/
def execDr (r1 r2 : Reg) (s : State) : Result := s.require (isEven r1) .specification (s.quotient r1 (s.getGr r2) 2)

/-- D, R202. -/
def execD (r1 x2 b2 : Reg) (d2 : Disp) (s : State) : Result :=
  s.require (isEven r1) .specification (s.withOperand (s.readW (s.opX x2 b2 d2)) fun y => s.quotient r1 y 4)

/-- LCR, R211. -/
def execLcr (r1 r2 : Reg) (s : State) : Result := s.fixedResult r1 (-(s.getGr r2).toInt) 2

/-- LNR, R214. -/
def execLnr (r1 r2 : Reg) (s : State) : Result := s.fixedResult r1 (-(s.getGr r2).toInt.natAbs) 2

/-- LPR, R215. -/
def execLpr (r1 r2 : Reg) (s : State) : Result := s.fixedResult r1 (s.getGr r2).toInt.natAbs 2

/-- LTR, R216. -/
def execLtr (r1 r2 : Reg) (s : State) : Result := s.grCcResult r1 (s.getGr r2) (ccSigned (s.getGr r2).toInt) 2

end Sys2Proof.Machine
end

