-- ==== Sys2Proof/Machine/HexFloat.lean ====
section
/-! DEFINITION. Hexadecimal floating-point numbers and the algorithms of R500 to R507, R518, R523, R529, R560 and R565, on exact
integers. -/

namespace Sys2Proof.Machine

/-- A floating-point number, R500: sign, characteristic (an integer while it is computed) and mantissa digits as a number. -/
structure FNum where
  neg : Bool
  chr : Int
  man : Nat
deriving DecidableEq, Repr

/-- What an operation delivers: the number to write, none for a true zero (R504), and the interruption it raises. -/
structure FOut where
  value : Option FNum
  exc : Option Interruption
deriving DecidableEq, Repr

/-! ## Formats, R501 and R502 -/

/-- A short number. -/
def unpackS (w : Word) : FNum :=
  { neg := w.getMsbD 0, chr := (w.extractLsb' 24 7).toNat, man := (w.extractLsb' 0 24).toNat }

/-- A long number. -/
def unpackL (w : Dword) : FNum :=
  { neg := w.getMsbD 0, chr := (w.extractLsb' 56 7).toNat, man := (w.extractLsb' 0 56).toNat }

/-- An extended number; sign and characteristic of its lower part are ignored. -/
def unpackX (w : Qword) : FNum :=
  { neg := w.getMsbD 0, chr := (w.extractLsb' 120 7).toNat,
    man := (w.extractLsb' 64 56).toNat * 2 ^ 56 + (w.extractLsb' 0 56).toNat }

/-- Sign and characteristic as the leftmost byte of a number; the characteristic wraps. -/
def headByte (neg : Bool) (chr : Int) : Byte := BitVec.ofBool neg ++ BitVec.ofInt 7 chr

/-- mkS of R501. -/
def mkS (x : FNum) : Word := headByte x.neg x.chr ++ BitVec.ofNat 24 x.man

/-- mkL of R501. -/
def mkL (x : FNum) : Dword := headByte x.neg x.chr ++ BitVec.ofNat 56 x.man

/-- mkX of R502: the lower part has the same sign and a characteristic 14 smaller. -/
def mkX (x : FNum) : Qword :=
  mkL { x with man := x.man / 2 ^ 56 } ++ mkL { x with chr := x.chr - 14, man := x.man % 2 ^ 56 }

/-- The short number to write. -/
def packS (v : Option FNum) : Word := match v with | none => 0 | some x => mkS x

/-- The long number to write. -/
def packL (v : Option FNum) : Dword := match v with | none => 0 | some x => mkL x

/-- The extended number to write. -/
def packX (v : Option FNum) : Qword := match v with | none => 0 | some x => mkX x

/-- The condition code by a number, R507 and R550: its mantissa, then its sign. -/
def ccFloat (v : Option FNum) : BitVec 2 :=
  match v with
  | none => 0
  | some x => if x.man = 0 then 0 else if x.neg then 1 else 2

/-! ## Algorithms -/

/-- A true zero, R504. -/
def FOut.trueZero : FOut := { value := none, exc := none }

/-- Deliver of R503. -/
def deliver (maskUnderflow neg : Bool) (c : Int) (m : Nat) : FOut :=
  if 127 < c then { value := some { neg := neg, chr := c - 128, man := m }, exc := some .exponentOverflow }
  else if c < 0 then
    if maskUnderflow then { value := some { neg := neg, chr := c + 128, man := m }, exc := some .exponentUnderflow }
    else FOut.trueZero
  else { value := some { neg := neg, chr := c, man := m }, exc := none }

/-- Significance, R504. -/
def significance (maskSig : Bool) (c : Int) : FOut :=
  if maskSig then { value := some { neg := false, chr := c, man := 0 }, exc := some .significance } else FOut.trueZero

/-- Normalisation, R505: at most k digits to the left, until the number reaches the limit. -/
def normalize (k limit : Nat) (c : Int) (m : Nat) : Int × Nat :=
  match k with
  | 0 => (c, m)
  | k + 1 => if m < limit then normalize k limit (c - 1) (m * 16) else (c, m)

/-- A mantissa with its sign. -/
def signed (neg : Bool) (m : Nat) : Int := if neg then -(m : Int) else (m : Int)

/-- The aligned sum of AddSub, R507: the common characteristic and the signed sum with the guard digits. -/
def alignedSum (x y : FNum) (sub : Bool) : Int × Int :=
  (max x.chr y.chr,
    signed x.neg (x.man * 16 / 16 ^ (y.chr - x.chr).toNat) + signed (y.neg != sub) (y.man * 16 / 16 ^ (x.chr - y.chr).toNat))

/-- The end of AddSub, R507, for a magnitude with guard digit. -/
def addSubEnd (n : Nat) (norm maskU maskSig neg : Bool) (c : Int) (t : Nat) : FOut :=
  if norm then
    if t = 0 then significance maskSig c
    else deliver maskU neg (normalize (n + 1) (16 ^ n) c t).1 ((normalize (n + 1) (16 ^ n) c t).2 / 16)
  else if t / 16 = 0 then significance maskSig c
  else deliver maskU neg c (t / 16)

/-- AddSub of R507 for n mantissa digits. -/
def addSub (n : Nat) (sub norm maskU maskSig : Bool) (x y : FNum) : FOut :=
  let c := (alignedSum x y sub).1
  let t := (alignedSum x y sub).2
  if 16 ^ (n + 1) ≤ t.natAbs then addSubEnd n norm maskU maskSig (decide (t < 0)) (c + 1) (t.natAbs / 16)
  else addSubEnd n norm maskU maskSig (decide (t < 0)) c t.natAbs

/-- Cmp of R518. -/
def ccFloatCompare (x y : FNum) : BitVec 2 := ccSigned (alignedSum x y true).2

/-- Div of R523 for n mantissa digits; the divisor's mantissa is not zero. -/
def divide (n : Nat) (maskU : Bool) (x y : FNum) : FOut :=
  if x.man = 0 then FOut.trueZero
  else
    let a := normalize n (16 ^ (n - 1)) x.chr x.man
    let b := normalize n (16 ^ (n - 1)) y.chr y.man
    if b.2 ≤ a.2 then deliver maskU (x.neg != y.neg) (a.1 - b.1 + 65) (a.2 * 16 ^ (n - 1) / b.2)
    else deliver maskU (x.neg != y.neg) (a.1 - b.1 + 64) (a.2 * 16 ^ n / b.2)

/-- The product of Mul, R565, with 2n digits, cut or extended to nr digits. -/
def productDigits (n nr p : Nat) : Nat := if 2 * n ≤ nr then p * 16 ^ (nr - 2 * n) else p / 16 ^ (2 * n - nr)

/-- Mul of R565 for operands of n digits and a product of nr digits. -/
def multiply (n nr : Nat) (maskU : Bool) (x y : FNum) : FOut :=
  if x.man = 0 ∨ y.man = 0 then FOut.trueZero
  else
    let a := normalize n (16 ^ (n - 1)) x.chr x.man
    let b := normalize n (16 ^ (n - 1)) y.chr y.man
    let p := a.2 * b.2
    let c := a.1 + b.1 - 64
    if p < 16 ^ (2 * n - 1) then deliver maskU (x.neg != y.neg) (c - 1) (productDigits n nr (p * 16))
    else deliver maskU (x.neg != y.neg) c (productDigits n nr p)

/-- Halve of R529 for n mantissa digits. -/
def halve (n : Nat) (maskU : Bool) (x : FNum) : FOut :=
  if x.man = 0 then FOut.trueZero
  else
    let a := normalize (n + 1) (16 ^ n) x.chr (x.man * 8)
    deliver maskU x.neg a.1 (a.2 / 16)

/-- Round of R560, from n to nr mantissa digits. -/
def roundTo (n nr : Nat) (x : FNum) : FOut :=
  let r := (x.man + 8 * 16 ^ (n - nr - 1)) / 16 ^ (n - nr)
  if 16 ^ nr ≤ r then deliver false x.neg (x.chr + 1) (r / 16) else deliver false x.neg x.chr r

end Sys2Proof.Machine
end

