-- ==== Sys2Proof/Machine/FloatArith.lean ====
section
/-! DEFINITION. Floating-point add, subtract, compare, divide, halve and multiply: the rules R508 to R531, R566 to R578 and R582 to
R585. The register numbers are checked before any operand is read (R506). -/

namespace Sys2Proof.Machine

/-- AddSub into a short register, R507. -/
def State.addShort (s : State) (r1 : Reg) (y : Word) (sub norm : Bool) (len : Nat) : Result :=
  let o := addSub 6 sub norm s.maskUnderflow s.maskSignificance (unpackS (s.getShort r1)) (unpackS y)
  ((s.setShort r1 (packS o.value)).setCc (ccFloat o.value)).complete len o.exc

/-- AddSub into a long register, R507. -/
def State.addLong (s : State) (r1 : Reg) (y : Dword) (sub norm : Bool) (len : Nat) : Result :=
  let o := addSub 14 sub norm s.maskUnderflow s.maskSignificance (unpackL (s.getFpr r1)) (unpackL y)
  ((s.setFpr r1 (packL o.value)).setCc (ccFloat o.value)).complete len o.exc

/-- AddSub into an extended pair, R507. -/
def State.addExt (s : State) (r1 : Reg) (y : Qword) (sub : Bool) : Result :=
  let o := addSub 28 sub true s.maskUnderflow s.maskSignificance (unpackX (s.getExt r1)) (unpackX y)
  ((s.setExt r1 (packX o.value)).setCc (ccFloat o.value)).complete 2 o.exc

/-- The register form of a short operation: both numbers are checked, R506. -/
def State.shortRR (s : State) (r1 r2 : Reg) (f : Word → Result) : Result :=
  s.require (isFpr r1 && isFpr r2) .specification (f (s.getShort r2))

/-- The register form of a long operation. -/
def State.longRR (s : State) (r1 r2 : Reg) (f : Dword → Result) : Result :=
  s.require (isFpr r1 && isFpr r2) .specification (f (s.getFpr r2))

/-- The register form of an extended operation. -/
def State.extRR (s : State) (r1 r2 : Reg) (f : Qword → Result) : Result :=
  s.require (isFprPair r1 && isFprPair r2) .specification (f (s.getExt r2))

/-- The storage form of a short operation: the register number is checked, then the operand is read. -/
def State.shortRX (s : State) (r1 : Reg) (l : Loc) (f : Word → Result) : Result :=
  s.require (isFpr r1) .specification (s.withOperand (s.readW l) f)

/-- The storage form of a long operation. -/
def State.longRX (s : State) (r1 : Reg) (l : Loc) (f : Dword → Result) : Result :=
  s.require (isFpr r1) .specification (s.withOperand (s.readD l) f)

/-- AER, R508. -/
def execAer (r1 r2 : Reg) (s : State) : Result := s.shortRR r1 r2 fun y => s.addShort r1 y false true 2
/-- AE, R509. -/
def execAe (r1 x2 b2 : Reg) (d2 : Disp) (s : State) : Result :=
  s.shortRX r1 (s.opX x2 b2 d2) fun y => s.addShort r1 y false true 4
/-- ADR, R510. -/
def execAdr (r1 r2 : Reg) (s : State) : Result := s.longRR r1 r2 fun y => s.addLong r1 y false true 2
/-- AD, R511. -/
def execAd (r1 x2 b2 : Reg) (d2 : Disp) (s : State) : Result :=
  s.longRX r1 (s.opX x2 b2 d2) fun y => s.addLong r1 y false true 4
/-- AXR, R512. -/
def execAxr (r1 r2 : Reg) (s : State) : Result := s.extRR r1 r2 fun y => s.addExt r1 y false
/-- AUR, R514. -/
def execAur (r1 r2 : Reg) (s : State) : Result := s.shortRR r1 r2 fun y => s.addShort r1 y false false 2
/-- AU, R515. -/
def execAu (r1 x2 b2 : Reg) (d2 : Disp) (s : State) : Result :=
  s.shortRX r1 (s.opX x2 b2 d2) fun y => s.addShort r1 y false false 4
/-- AWR, R516. -/
def execAwr (r1 r2 : Reg) (s : State) : Result := s.longRR r1 r2 fun y => s.addLong r1 y false false 2
/-- AW, R517. -/
def execAw (r1 x2 b2 : Reg) (d2 : Disp) (s : State) : Result :=
  s.longRX r1 (s.opX x2 b2 d2) fun y => s.addLong r1 y false false 4

/-- SER, R574. -/
def execSer (r1 r2 : Reg) (s : State) : Result := s.shortRR r1 r2 fun y => s.addShort r1 y true true 2
/-- SE, R575. -/
def execSe (r1 x2 b2 : Reg) (d2 : Disp) (s : State) : Result :=
  s.shortRX r1 (s.opX x2 b2 d2) fun y => s.addShort r1 y true true 4
/-- SDR, R576. -/
def execSdr (r1 r2 : Reg) (s : State) : Result := s.longRR r1 r2 fun y => s.addLong r1 y true true 2
/-- SD, R577. -/
def execSd (r1 x2 b2 : Reg) (d2 : Disp) (s : State) : Result :=
  s.longRX r1 (s.opX x2 b2 d2) fun y => s.addLong r1 y true true 4
/-- SXR, R578. -/
def execSxr (r1 r2 : Reg) (s : State) : Result := s.extRR r1 r2 fun y => s.addExt r1 y true
/-- SUR, R582. -/
def execSur (r1 r2 : Reg) (s : State) : Result := s.shortRR r1 r2 fun y => s.addShort r1 y true false 2
/-- SU, R583. -/
def execSu (r1 x2 b2 : Reg) (d2 : Disp) (s : State) : Result :=
  s.shortRX r1 (s.opX x2 b2 d2) fun y => s.addShort r1 y true false 4
/-- SWR, R584. -/
def execSwr (r1 r2 : Reg) (s : State) : Result := s.longRR r1 r2 fun y => s.addLong r1 y true false 2
/-- SW, R585. -/
def execSw (r1 x2 b2 : Reg) (d2 : Disp) (s : State) : Result :=
  s.longRX r1 (s.opX x2 b2 d2) fun y => s.addLong r1 y true false 4

/-- CER, R519. -/
def execCer (r1 r2 : Reg) (s : State) : Result :=
  s.shortRR r1 r2 fun y => s.ccResult (ccFloatCompare (unpackS (s.getShort r1)) (unpackS y)) 2
/-- CE, R520. -/
def execCe (r1 x2 b2 : Reg) (d2 : Disp) (s : State) : Result :=
  s.shortRX r1 (s.opX x2 b2 d2) fun y => s.ccResult (ccFloatCompare (unpackS (s.getShort r1)) (unpackS y)) 4
/-- CDR, R521. -/
def execCdr (r1 r2 : Reg) (s : State) : Result :=
  s.longRR r1 r2 fun y => s.ccResult (ccFloatCompare (unpackL (s.getFpr r1)) (unpackL y)) 2
/-- CD, R522. -/
def execCd (r1 x2 b2 : Reg) (d2 : Disp) (s : State) : Result :=
  s.longRX r1 (s.opX x2 b2 d2) fun y => s.ccResult (ccFloatCompare (unpackL (s.getFpr r1)) (unpackL y)) 4

/-- Div into a short register, R523: a divisor mantissa of zero suppresses. -/
def State.divShort (s : State) (r1 : Reg) (y : Word) (len : Nat) : Result :=
  let o := divide 6 s.maskUnderflow (unpackS (s.getShort r1)) (unpackS y)
  s.require ((unpackS y).man != 0) .divide ((s.setShort r1 (packS o.value)).complete len o.exc)

/-- Div into a long register, R523. -/
def State.divLong (s : State) (r1 : Reg) (y : Dword) (len : Nat) : Result :=
  let o := divide 14 s.maskUnderflow (unpackL (s.getFpr r1)) (unpackL y)
  s.require ((unpackL y).man != 0) .divide ((s.setFpr r1 (packL o.value)).complete len o.exc)

/-- DER, R524. -/
def execDer (r1 r2 : Reg) (s : State) : Result := s.shortRR r1 r2 fun y => s.divShort r1 y 2
/-- DE, R525. -/
def execDe (r1 x2 b2 : Reg) (d2 : Disp) (s : State) : Result := s.shortRX r1 (s.opX x2 b2 d2) fun y => s.divShort r1 y 4
/-- DDR, R526. -/
def execDdr (r1 r2 : Reg) (s : State) : Result := s.longRR r1 r2 fun y => s.divLong r1 y 2
/-- DD, R527. -/
def execDd (r1 x2 b2 : Reg) (d2 : Disp) (s : State) : Result := s.longRX r1 (s.opX x2 b2 d2) fun y => s.divLong r1 y 4

/-- DXR, R528: only with the 31-bit mode. -/
def execDxr (r1 r2 : Reg) (s : State) : Result :=
  s.require s.cfg.has31Bit .operation
    (s.extRR r1 r2 fun y =>
      let o := divide 28 s.maskUnderflow (unpackX (s.getExt r1)) (unpackX y)
      s.require ((unpackX y).man != 0) .divide ((s.setExt r1 (packX o.value)).complete 4 o.exc))

/-- HER, R530. -/
def execHer (r1 r2 : Reg) (s : State) : Result :=
  s.shortRR r1 r2 fun y =>
    let o := halve 6 s.maskUnderflow (unpackS y)
    (s.setShort r1 (packS o.value)).complete 2 o.exc
/-- HDR, R531. -/
def execHdr (r1 r2 : Reg) (s : State) : Result :=
  s.longRR r1 r2 fun y =>
    let o := halve 14 s.maskUnderflow (unpackL y)
    (s.setFpr r1 (packL o.value)).complete 2 o.exc

/-- Mul of short numbers into a long register, R566: all 64 bits are written. -/
def State.mulShort (s : State) (r1 : Reg) (y : Word) (len : Nat) : Result :=
  let o := multiply 6 14 s.maskUnderflow (unpackS (s.getShort r1)) (unpackS y)
  (s.setFpr r1 (packL o.value)).complete len o.exc

/-- Mul of long numbers into a long register, R568. -/
def State.mulLong (s : State) (r1 : Reg) (y : Dword) (len : Nat) : Result :=
  let o := multiply 14 14 s.maskUnderflow (unpackL (s.getFpr r1)) (unpackL y)
  (s.setFpr r1 (packL o.value)).complete len o.exc

/-- Mul of long numbers into an extended pair, R570. -/
def State.mulLongExt (s : State) (r1 : Reg) (y : Dword) (len : Nat) : Result :=
  let o := multiply 14 28 s.maskUnderflow (unpackL (s.getFpr r1)) (unpackL y)
  (s.setExt r1 (packX o.value)).complete len o.exc

/-- MER, R566. -/
def execMer (r1 r2 : Reg) (s : State) : Result := s.shortRR r1 r2 fun y => s.mulShort r1 y 2
/-- ME, R567. -/
def execMe (r1 x2 b2 : Reg) (d2 : Disp) (s : State) : Result := s.shortRX r1 (s.opX x2 b2 d2) fun y => s.mulShort r1 y 4
/-- MDR, R568. -/
def execMdr (r1 r2 : Reg) (s : State) : Result := s.longRR r1 r2 fun y => s.mulLong r1 y 2
/-- MD, R569. -/
def execMd (r1 x2 b2 : Reg) (d2 : Disp) (s : State) : Result := s.longRX r1 (s.opX x2 b2 d2) fun y => s.mulLong r1 y 4
/-- MXDR, R570. -/
def execMxdr (r1 r2 : Reg) (s : State) : Result :=
  s.require (isFprPair r1 && isFpr r2) .specification (s.mulLongExt r1 (s.getFpr r2) 2)
/-- MXD, R571. -/
def execMxd (r1 x2 b2 : Reg) (d2 : Disp) (s : State) : Result :=
  s.require (isFprPair r1) .specification (s.withOperand (s.readD (s.opX x2 b2 d2)) fun y => s.mulLongExt r1 y 4)
/-- MXR, R572. -/
def execMxr (r1 r2 : Reg) (s : State) : Result :=
  s.extRR r1 r2 fun y =>
    let o := multiply 28 28 s.maskUnderflow (unpackX (s.getExt r1)) (unpackX y)
    (s.setExt r1 (packX o.value)).complete 2 o.exc

end Sys2Proof.Machine
end

