-- ==== Sys2Proof/Machine/FloatLoad.lean ====
section
/-! DEFINITION. Floating-point loads and stores: the rules R550 to R564, R579 and R580. None of them normalises. -/

namespace Sys2Proof.Machine

/-- The end of a short load that sets CC, R550. -/
def State.loadShortCc (s : State) (r1 : Reg) (r : Word) : Result :=
  ((s.setShort r1 r).setCc (ccFloat (some (unpackS r)))).finish 2

/-- The end of a long load that sets CC, R551. -/
def State.loadLongCc (s : State) (r1 : Reg) (r : Dword) : Result :=
  ((s.setFpr r1 r).setCc (ccFloat (some (unpackL r)))).finish 2

/-- LCER, R550. -/
def execLcer (r1 r2 : Reg) (s : State) : Result := s.shortRR r1 r2 fun y => s.loadShortCc r1 (y ^^^ 0x80000000)
/-- LCDR, R551. -/
def execLcdr (r1 r2 : Reg) (s : State) : Result := s.longRR r1 r2 fun y => s.loadLongCc r1 (y ^^^ 0x8000000000000000)
/-- LER, R552. -/
def execLer (r1 r2 : Reg) (s : State) : Result := s.shortRR r1 r2 fun y => (s.setShort r1 y).finish 2
/-- LE, R553. -/
def execLe (r1 x2 b2 : Reg) (d2 : Disp) (s : State) : Result :=
  s.shortRX r1 (s.opX x2 b2 d2) fun y => (s.setShort r1 y).finish 4
/-- LDR, R554. -/
def execLdr (r1 r2 : Reg) (s : State) : Result := s.longRR r1 r2 fun y => (s.setFpr r1 y).finish 2
/-- LD, R555. -/
def execLd (r1 x2 b2 : Reg) (d2 : Disp) (s : State) : Result :=
  s.longRX r1 (s.opX x2 b2 d2) fun y => (s.setFpr r1 y).finish 4
/-- LNER, R556. -/
def execLner (r1 r2 : Reg) (s : State) : Result := s.shortRR r1 r2 fun y => s.loadShortCc r1 (y ||| 0x80000000)
/-- LNDR, R557. -/
def execLndr (r1 r2 : Reg) (s : State) : Result := s.longRR r1 r2 fun y => s.loadLongCc r1 (y ||| 0x8000000000000000)
/-- LPER, R558. -/
def execLper (r1 r2 : Reg) (s : State) : Result := s.shortRR r1 r2 fun y => s.loadShortCc r1 (y &&& 0x7FFFFFFF)
/-- LPDR, R559. -/
def execLpdr (r1 r2 : Reg) (s : State) : Result := s.longRR r1 r2 fun y => s.loadLongCc r1 (y &&& 0x7FFFFFFFFFFFFFFF)
/-- LTER, R563. -/
def execLter (r1 r2 : Reg) (s : State) : Result := s.shortRR r1 r2 fun y => s.loadShortCc r1 y
/-- LTDR, R564. -/
def execLtdr (r1 r2 : Reg) (s : State) : Result := s.longRR r1 r2 fun y => s.loadLongCc r1 y

/-- LRER, R561. -/
def execLrer (r1 r2 : Reg) (s : State) : Result :=
  s.longRR r1 r2 fun y =>
    let o := roundTo 14 6 (unpackL y)
    (s.setShort r1 (packS o.value)).complete 2 o.exc
/-- LRDR, R562. -/
def execLrdr (r1 r2 : Reg) (s : State) : Result :=
  let o := roundTo 28 14 (unpackX (s.getExt r2))
  s.require (isFpr r1 && isFprPair r2) .specification ((s.setFpr r1 (packL o.value)).complete 2 o.exc)

/-- STE, R579. -/
def execSte (r1 x2 b2 : Reg) (d2 : Disp) (s : State) : Result :=
  s.require (isFpr r1) .specification
    (s.withOperand (s.writeAligned (s.opX x2 b2 d2) 4 (s.getShort r1).toNat) fun t => t.finish 4)
/-- STD, R580. -/
def execStd (r1 x2 b2 : Reg) (d2 : Disp) (s : State) : Result :=
  s.require (isFpr r1) .specification
    (s.withOperand (s.writeAligned (s.opX x2 b2 d2) 8 (s.getFpr r1).toNat) fun t => t.finish 4)

end Sys2Proof.Machine
end

