-- ==== Sys2Proof/Machine/Logic.lean ====
section
/-! DEFINITION. The connectives over registers, words and immediates, and the byte tests: the rules R176, R178, R244, R248 to R250,
R252 to R254, R311 and R316 to R318. -/

namespace Sys2Proof.Machine

/-- The end of a connective into a general register, R248. -/
def State.logicResult (s : State) (r1 : Reg) (v : Word) (len : Nat) : Result := s.grCcResult r1 v (ccNonzero (v != 0)) len

/-- NR, R248. -/
def execNr (r1 r2 : Reg) (s : State) : Result := s.logicResult r1 (s.getGr r1 &&& s.getGr r2) 2

/-- N, R249. -/
def execN (r1 x2 b2 : Reg) (d2 : Disp) (s : State) : Result :=
  s.withOperand (s.readW (s.opX x2 b2 d2)) fun y => s.logicResult r1 (s.getGr r1 &&& y) 4

/-- OR, R252. -/
def execOr (r1 r2 : Reg) (s : State) : Result := s.logicResult r1 (s.getGr r1 ||| s.getGr r2) 2

/-- O, R253. -/
def execO (r1 x2 b2 : Reg) (d2 : Disp) (s : State) : Result :=
  s.withOperand (s.readW (s.opX x2 b2 d2)) fun y => s.logicResult r1 (s.getGr r1 ||| y) 4

/-- XR, R316. -/
def execXr (r1 r2 : Reg) (s : State) : Result := s.logicResult r1 (s.getGr r1 ^^^ s.getGr r2) 2

/-- X, R317. -/
def execX (r1 x2 b2 : Reg) (d2 : Disp) (s : State) : Result :=
  s.withOperand (s.readW (s.opX x2 b2 d2)) fun y => s.logicResult r1 (s.getGr r1 ^^^ y) 4

/-- One byte of storage updated in place, R250: it must be readable and writable. -/
def State.updateByte (s : State) (l : Loc) (f : Byte → Byte) : Result :=
  s.require (s.allows .update l 1) .addressTranslation
    (((s.store l 1 (f (s.byteAt l 0)).toNat).setCc (ccNonzero (f (s.byteAt l 0) != 0))).finish 4)

/-- NI, R250. -/
def execNi (b1 : Reg) (d1 : Disp) (i2 : Byte) (s : State) : Result := s.updateByte (s.opB b1 d1) fun b => b &&& i2

/-- OI, R254. -/
def execOi (b1 : Reg) (d1 : Disp) (i2 : Byte) (s : State) : Result := s.updateByte (s.opB b1 d1) fun b => b ||| i2

/-- XI, R318. -/
def execXi (b1 : Reg) (d1 : Disp) (i2 : Byte) (s : State) : Result := s.updateByte (s.opB b1 d1) fun b => b ^^^ i2

/-- MVI, R244. -/
def execMvi (b1 : Reg) (d1 : Disp) (i2 : Byte) (s : State) : Result :=
  s.withOperand (s.write (s.opB b1 d1) 1 i2.toNat) fun t => t.finish 4

/-- CLI, R176. -/
def execCli (b1 : Reg) (d1 : Disp) (i2 : Byte) (s : State) : Result :=
  s.withOperand (s.readB (s.opB b1 d1)) fun p => s.ccResult (ccCompare p.toNat i2.toNat) 4

/-- The condition code of TM, R311. A mask of zeros gives 0 (D19, log 37). -/
def ccTest (b m : Byte) : BitVec 2 := if b &&& m = 0 then 0 else if b &&& m = m then 3 else 1

/-- TM, R311. -/
def execTm (b1 : Reg) (d1 : Disp) (i2 : Byte) (s : State) : Result :=
  s.withOperand (s.readB (s.opB b1 d1)) fun p => s.ccResult (ccTest p i2) 4

/-- CLM, R178. With no byte selected, one byte at the address must be readable. -/
def execClm (r1 : Reg) (m3 : Mask) (b2 : Reg) (d2 : Disp) (s : State) : Result :=
  if m3 = 0 then s.withOperand (s.read (s.opB b2 d2) 1) fun _ => s.ccResult 0 4
  else s.withOperand (s.read (s.opB b2 d2) (maskCount m3)) fun v =>
    s.ccResult (ccCompare (selectBytes (s.getGr r1) (maskBytes m3) 0) v) 4

end Sys2Proof.Machine
end

