-- ==== Sys2Proof/Machine/Shifts.lean ====
section
/-! DEFINITION. The eight shifts: the rules R276 to R280 and R282 to R285. -/

namespace Sys2Proof.Machine

/-- The shift count, R276: the low 6 bits of the operand address. -/
def State.shiftCount (s : State) (b2 : Reg) (d2 : Disp) : Nat := (s.addrx 0 b2 d2).toNat % 64

/-- An arithmetic left shift of 32 bits, R277: the sign stays and the other 31 bits move. -/
def shiftLeft32 (x : Word) (n : Nat) : Word := (x &&& 0x80000000) ||| ((x <<< n) &&& 0x7FFFFFFF)

/-- The same of 64 bits, R278. -/
def shiftLeft64 (x : Dword) (n : Nat) : Dword := (x &&& 0x8000000000000000) ||| ((x <<< n) &&& 0x7FFFFFFFFFFFFFFF)

/-- SLA, R277: overflow where the shifted number does not fit. -/
def execSla (r1 b2 : Reg) (d2 : Disp) (s : State) : Result :=
  let n := s.shiftCount b2 d2
  let ok := fits32 ((s.getGr r1).toInt * 2 ^ n)
  let r := shiftLeft32 (s.getGr r1) n
  ((s.setGr r1 r).setCc (ccFixed ok r.toInt)).complete 4 (s.fixedOverflow ok)

/-- SLDA, R278. -/
def execSlda (r1 b2 : Reg) (d2 : Disp) (s : State) : Result :=
  let n := s.shiftCount b2 d2
  let ok := fits64 ((s.getPair r1).toInt * 2 ^ n)
  let r := shiftLeft64 (s.getPair r1) n
  s.require (isEven r1) .specification (((s.setPair r1 r).setCc (ccFixed ok r.toInt)).complete 4 (s.fixedOverflow ok))

/-- SLDL, R279. -/
def execSldl (r1 b2 : Reg) (d2 : Disp) (s : State) : Result :=
  s.require (isEven r1) .specification ((s.setPair r1 (s.getPair r1 <<< s.shiftCount b2 d2)).finish 4)

/-- SLL, R280. -/
def execSll (r1 b2 : Reg) (d2 : Disp) (s : State) : Result := s.grResult r1 (s.getGr r1 <<< s.shiftCount b2 d2) 4

/-- SRA, R282. -/
def execSra (r1 b2 : Reg) (d2 : Disp) (s : State) : Result :=
  let r := (s.getGr r1).sshiftRight (s.shiftCount b2 d2)
  s.grCcResult r1 r (ccSigned r.toInt) 4

/-- SRDA, R283. -/
def execSrda (r1 b2 : Reg) (d2 : Disp) (s : State) : Result :=
  let r := (s.getPair r1).sshiftRight (s.shiftCount b2 d2)
  s.require (isEven r1) .specification (((s.setPair r1 r).setCc (ccSigned r.toInt)).finish 4)

/-- SRDL, R284. -/
def execSrdl (r1 b2 : Reg) (d2 : Disp) (s : State) : Result :=
  s.require (isEven r1) .specification ((s.setPair r1 (s.getPair r1 >>> s.shiftCount b2 d2)).finish 4)

/-- SRL, R285. -/
def execSrl (r1 b2 : Reg) (d2 : Disp) (s : State) : Result := s.grResult r1 (s.getGr r1 >>> s.shiftCount b2 d2) 4

end Sys2Proof.Machine
end

