-- ==== Sys2Proof/Machine/System.lean ====
section
/-! DEFINITION. Compare and swap, test and set, the program mask, the clock and the calls: the rules R181, R182, R207, R233, R281, R296,
R299 and R314. In one CPU the serialization and the interlock of R66 and R67 have no effect of their own (log 32). -/

namespace Sys2Proof.Machine

/-- The checks of an interlocked update, R181: the boundary on every CPU, then read and write access. -/
def State.interlocked (s : State) (l : Loc) (n : Nat) (r : Result) : Result :=
  s.require (l.addr.toNat % n == 0) .specification (s.require (s.allows .update l n) .addressTranslation r)

/-- CS, R181. -/
def execCs (r1 r3 b2 : Reg) (d2 : Disp) (s : State) : Result :=
  let l := s.opB b2 d2
  s.interlocked l 4
    (if s.value l 4 = (s.getGr r1).toNat then ((s.store l 4 (s.getGr r3).toNat).setCc 0).finish 4
     else s.grCcResult r1 (BitVec.ofNat 32 (s.value l 4)) 1 4)

/-- CDS, R182. -/
def execCds (r1 r3 b2 : Reg) (d2 : Disp) (s : State) : Result :=
  let l := s.opB b2 d2
  s.require (isEven r1 && isEven r3) .specification
    (s.interlocked l 8
      (if s.value l 8 = (s.getPair r1).toNat then ((s.store l 8 (s.getPair r3).toNat).setCc 0).finish 4
       else ((s.setPair r1 (BitVec.ofNat 64 (s.value l 8))).setCc 1).finish 4))

/-- TS, R314. -/
def execTs (b2 : Reg) (d2 : Disp) (s : State) : Result :=
  let l := s.opB b2 d2
  s.require (s.allows .update l 1) .addressTranslation
    (((s.store l 1 255).setCc (ccNonzero ((s.byteAt l 0).getMsbD 0))).finish 4)

/-- SPM, R281. -/
def execSpm (r1 : Reg) (s : State) : Result :=
  ({ s with cc := (s.getGr r1).extractLsb' 28 2, pm := (s.getGr r1).extractLsb' 24 4 } : State).finish 2

/-- IPM, R207. -/
def execIpm (r1 : Reg) (s : State) : Result :=
  s.grResult r1 ((0 : BitVec 2) ++ (s.cc ++ (s.pm ++ (s.getGr r1).extractLsb' 0 24))) 4

/-- MC, R233: under BS2000 no operation; a class above 15 is a Specification interruption. Log 31. -/
def execMc (_b1 : Reg) (_d1 : Disp) (i2 : Byte) (s : State) : Result :=
  s.require (decide (i2.toNat ≤ 15)) .specification (s.finish 4)

/-- SVC, R299 and R459: the I field goes to a privileged register (log 16), and control to BS2000: to its own routine, which runs
in the next step (log 44), or to the default of D4, which changes nothing else. CC stays. -/
def execSvc (i : Byte) (s : State) : Result :=
  ({ s with svcCode := i, status := if s.cfg.hasServices then .service else s.status } : State).finish 2

/-- What the clock shows now: the sample of the system, never below an earlier reading (R487, D14). Log 12. -/
def State.clockNow (s : State) : Dword :=
  if s.tod.toNat ≤ (Config.todSample s.free).toNat then Config.todSample s.free else s.tod

/-- STCK, R296. -/
def execStck (b2 : Reg) (d2 : Disp) (s : State) : Result :=
  s.withOperand (s.writeAligned (s.opB b2 d2) 8 s.clockNow.toNat) fun t =>
    ({ t with tod := s.clockNow, cc := 0 } : State).useFree.finish 4

end Sys2Proof.Machine
end

