-- ==== Sys2Proof/Machine/Step.lean ====
section
/-! DEFINITION. One step of the machine, R115 and R486: fetch, decode, execute. -/

namespace Sys2Proof.Machine

/-- One step. A running program fetches at pc, decodes and executes; a fetch or a decoder that refuses raises its program
interruption (R441, R443), and nothing has happened before it. Where an SVC or an interruption has handed control to BS2000, the
step is BS2000's (R449, R459). A program that BS2000 has ended takes no step. -/
def step (s : State) : Host.Outcome State Fault Refusal :=
  match s.status with
  | .running =>
    match s.fetchAt s.pc with
    | .error k => s.interrupt k
    | .ok bs =>
      match decode bs with
      | .error e => s.interrupt (decodeInterruption e)
      | .ok (i, _) => exec i s
  | .terminated k => .fault (.programTerminated k)
  | .stxit k => s.activateStxit k
  | .service => s.serve
  | .ended => .fault .programEnded

/-- Stores bytes one after the other in the program space, from byte i of an operand on. -/
def State.storeBytes (s : State) (l : Loc) (i : Nat) (bs : List Byte) : State :=
  match bs with
  | [] => s
  | b :: bs => (s.setByte l i b).storeBytes l (i + 1) bs

/-- The entry of the page that holds an address of the program space, readable and writable. -/
def codePage (a : Nat) : PageEntry := { space := 0, page := a / 4096, readable := true, writable := true }

/-- The state with its pages extended so that byte i at l can be read, where it cannot yet. -/
def State.withReadable (s : State) (l : Loc) (i : Nat) : State :=
  if s.byteAllowed .read l i then s else { s with pages := codePage (l.at i) :: s.pages }

/-- An instruction of the opcode table stored where step fetches: at pc in the program space, as the loader would place it
(log 33). The page is allocated where it is not yet. -/
def State.withFetchWord (s : State) (nbits w : Nat) : State :=
  ((s.withReadable (s.code s.pc) 0).withReadable (s.code s.pc) 5).storeBytes (s.code s.pc) 0 (tableBytes nbits w)

end Sys2Proof.Machine
end

