-- ==== Sys2Proof/Safety.lean ====
section
/-! DEFINITION. What counts as a safe run, and the words the claims use: the invariant of the machine, what a step may change, and
which bytes of storage an operand holds. -/

namespace Sys2Proof.Machine

/-- What holds of every state of a run: storage is in its canonical form; the instruction address has the width of the
addressing mode (R15); the modes that the CPU does not have are off (R18, R19, R113); and no instruction is under EX between
two steps. -/
structure State.Inv (s : State) : Prop where
  mem : Memory.wf s.mem
  pc : trunc s.amode s.pc = s.pc
  amode : s.amode = true → s.cfg.has31Bit = true
  asc : s.asc = true → s.cfg.hasEsa = true
  viaEx : s.viaEx = false

/-- Whether the program runs, or waits for the routine that its SVC has called. -/
def RunStatus.live (k : RunStatus) : Bool := k == .running || k == .service

/-- A safe step: the program still runs after it, so no program interruption was taken and nothing stopped it (R441, R449). -/
def State.SafeStep (s : State) : Prop := ∃ t, step s = .next t ∧ t.status.live = true

/-- A safe run of n steps. -/
def State.SafeRun (s : State) (n : Nat) : Prop :=
  match n with
  | 0 => s.status.live = true
  | k + 1 => ∃ t, step s = .next t ∧ t.status.live = true ∧ t.SafeRun k

/-- A key of storage that none of the first n bytes of an operand has. -/
def Loc.Outside (l : Loc) (n k : Nat) : Prop := ∀ i < n, l.key i ≠ some k

/-- Every byte of storage that lies outside the first n bytes of an operand is the same in both states. -/
def State.SameOutside (s t : State) (l : Loc) (n : Nat) : Prop := ∀ k, l.Outside n k → t.mem.get k = s.mem.get k

/-- Whether a page entry of the state allows the key of a byte to be written, R61. -/
def State.KeyWritable (s : State) (k : Nat) : Prop :=
  ∃ p ∈ s.pages, p.writable = true ∧ p.space = k / 2147483648 ∧ p.page = k % 2147483648 / 4096

/-- The parts of the state that no instruction changes: the parameters of R6, the allocated pages and the access list, which are
BS2000's, and the STXIT process. -/
def State.SameSystem (s t : State) : Prop :=
  t.cfg = s.cfg ∧ t.pages = s.pages ∧ t.accessList = s.accessList ∧ t.stxit = s.stxit

/-! ## Which instruction is executed, and what it may write -/

/-- The instruction whose meaning an instruction has in a state: for EX the modified target, where there is one, R203. -/
def State.executed (s : State) (i : Instr) : Instr :=
  match i with
  | .ex r1 x2 b2 d2 =>
    match s.fetchAt (s.addrx x2 b2 d2) with
    | .ok bs =>
      match decode (s.modifyTarget r1 bs) with
      | .ok (j, _) => j
      | .error _ => i
    | .error _ => i
  | _ => i

/-- The instructions that write an access register: R421, R425, R426, R427. -/
def writesAr : Instr → Bool
  | .cpya _ _ => true
  | .lae _ _ _ _ => true
  | .lam _ _ _ _ => true
  | .sar _ _ => true
  | _ => false

/-- The instructions that set the addressing mode, R18: R141 and R146. -/
def writesAmode : Instr → Bool
  | .bassm _ _ => true
  | .bsm _ _ => true
  | _ => false

/-- The instruction that switches the AR mode, R19: R428. -/
def writesAsc : Instr → Bool
  | .sac _ _ => true
  | _ => false

/-- The instruction that sets the program mask, R17: R281. -/
def writesPm : Instr → Bool
  | .spm _ => true
  | _ => false

/-- The instructions with an operation code from X'20' to X'3F' or from X'60' to X'7F', and DXR: those that work on the
floating-point registers. -/
def isFloating (i : Instr) : Bool :=
  match encode i with
  | b :: c :: _ => (0x20 ≤ b.toNat && b.toNat < 0x40) || (0x60 ≤ b.toNat && b.toNat < 0x80) || (b == 0xB2 && c == 0x2D)
  | _ => false

/-! ## The value of a floating-point number -/

/-- The number that a floating-point number of n mantissa digits stands for, R500. -/
def FNum.value (n : Nat) (x : FNum) : ℚ := (if x.neg then -1 else 1) * (x.man : ℚ) * (16 : ℚ) ^ (x.chr - 64 - (n : ℤ))

/-- One unit of the last digit of a number of n digits with this characteristic. -/
def lastDigit (n : Nat) (c : ℤ) : ℚ := (16 : ℚ) ^ (c - 64 - (n : ℤ))

/-- What R503 delivers for a result whose characteristic is still an integer: above 127 the number with a characteristic 128 smaller
and an exponent overflow; below 0 the number with one 128 greater and an exponent underflow, or with its mask bit off a true zero; else
the number itself. -/
def FNum.delivered (maskUnderflow : Bool) (r : FNum) : FOut :=
  if 127 < r.chr then { value := some { r with chr := r.chr - 128 }, exc := some .exponentOverflow }
  else if r.chr < 0 then
    if maskUnderflow then { value := some { r with chr := r.chr + 128 }, exc := some .exponentUnderflow }
    else { value := none, exc := none }
  else { value := some r, exc := none }

end Sys2Proof.Machine
end

