-- ==== Sys2Proof/Certificates/Slice0/Obligations.lean ====
section
/-! DEFINITION. The statements for the provers. "next" is the state's own next address, which follows the instruction's length, or
that of EX where EX executes it (R203). -/

open Sys2Proof Sys2Proof.Machine

/-! ## Start, decoding, step, interruptions -/

/-- R480: what the table of the start state fixes, for every choice of what it leaves open. That the start is in primary space mode
is the model's choice after D6 (log 7); the manual does not state it. -/
def Obligations.StartStateOfAProgram : Prop :=
  ∀ p : StartParams,
    (State.start p).pm = 15 ∧ (∀ r, (State.start p).getAr r = 0) ∧ (State.start p).asc = false ∧
    (State.start p).stxit = false ∧ (State.start p).status = .running ∧ (State.start p).amode = (p.amode && p.cfg.has31Bit) ∧
    (State.start p).pc = p.entry ∧ (∀ r, (State.start p).getGr r = p.gr[r.toNat]) ∧
    (∀ r, (State.start p).getFpr r = p.fpr[(fprIndex r).toNat]) ∧ (State.start p).cc = p.cc ∧
    (State.start p).mem = p.mem ∧ (State.start p).pages = p.pages

/-- The reset state meets the invariant that every step keeps. It is one start state of R480, with the values of logs 1 to 12. -/
def Obligations.ResetMeetsTheInvariant : Prop := State.reset.Inv

/-- Every step keeps the invariant: storage in canonical form, the instruction address in the width of the mode (R15), no mode
that the CPU does not have (R18, R19), and no instruction left under EX. -/
def Obligations.EveryStepKeepsTheInvariant : Prop := ∀ s t : State, s.Inv → step s = .next t → t.Inv

/-- Decoding an encoded well-formed instruction gives it back, whatever follows it. -/
def Obligations.DecodeOfEncodeGivesTheInstruction : Prop :=
  ∀ (i : Instr) (rest : List Byte), i.wf = true → decode (encode i ++ rest) = .ok (i, rest)

/-- Instructions of every format, their words written out from R94 to R102. The layout of the words of RS (SLA, STCM) is the one that
R97 takes from general knowledge (G4), the model's presumption (log 27). -/
def Obligations.WordsOfEveryFormatDecode : Prop :=
  decodeTableWord 16 0x1AF0 = some (.ar 15 0) ∧
  decodeTableWord 16 0x0AFF = some (.svc 0xFF) ∧
  decodeTableWord 16 0x047F = some (.spm 7) ∧
  decodeTableWord 32 0x4F30C008 = some (.cvb 3 0 12 8) ∧
  decodeTableWord 32 0x7C21A5B7 = some (.me 2 1 10 0x5B7) ∧
  decodeTableWord 32 0x8B730005 = some (.sla 7 0 5) ∧
  decodeTableWord 32 0xBE95C00A = some (.stcm 9 5 12 10) ∧
  decodeTableWord 32 0x91875123 = some (.tm 5 0x123 0x87) ∧
  decodeTableWord 32 0x93FF1004 = some (.ts 1 4) ∧
  decodeTableWord 32 0xB2190200 = some (.sac 0 0x200) ∧
  decodeTableWord 32 0xB24EFF3A = some (.sar 3 10) ∧
  decodeTableWord 48 0xD2FF1001C002 = some (.mvc 256 1 1 12 2) ∧
  decodeTableWord 48 0xF2700010D020 = some (.pack 8 1 0 0x10 13 0x20) ∧
  decodeTableWord 48 0xF0151006003F = some (.srp 2 1 6 0 0x3F 5)

/-- R486: a running program whose bytes at the instruction address decode to an instruction runs that instruction; the step adds
nothing of its own. -/
def Obligations.StepRunsTheDecodedInstruction : Prop :=
  ∀ (s : State) (i : Instr) (rest : List Byte), s.status = .running → s.pc.getLsbD 0 = false →
    s.allows .read (s.code s.pc) 2 = true →
    s.allows .read (s.code s.pc) (ilen (s.byteAt (s.code s.pc) 0)) = true →
    decode (s.bytesFrom (s.code s.pc) 0 (ilen (s.byteAt (s.code s.pc) 0))) = .ok (i, rest) →
    step s = exec i s

/-- R441 and R114: what interrupts a step before any instruction runs. Which of the two operation interruptions a code raises is open
(log 17). The model's choices: a state is handed over in which nothing has changed (D15 and D3, logs 29 and 14); an odd address is a
Specification interruption (D13, log 38), and comes before bytes that cannot be read, as these do before the code (D11, log 28). -/
def Obligations.StepInterruptsWhereNothingDecodes : Prop :=
  ∀ s : State, s.status = .running →
    (s.pc.getLsbD 0 = true → step s = s.interrupt .specification) ∧
    (s.pc.getLsbD 0 = false → s.allows .read (s.code s.pc) 2 = false → step s = s.interrupt .addressTranslation) ∧
    (s.pc.getLsbD 0 = false → s.allows .read (s.code s.pc) 2 = true →
      s.allows .read (s.code s.pc) (ilen (s.byteAt (s.code s.pc) 0)) = false → step s = s.interrupt .addressTranslation) ∧
    (s.pc.getLsbD 0 = false → s.allows .read (s.code s.pc) 2 = true →
      s.allows .read (s.code s.pc) (ilen (s.byteAt (s.code s.pc) 0)) = true →
      ∀ op, decode (s.bytesFrom (s.code s.pc) 0 (ilen (s.byteAt (s.code s.pc) 0))) = .error (.unlistedOpcode op) →
        step s = s.interrupt (if Config.unlistedPrivileged op then .privilegedOperation else .operation))

/-- R440 and R449: the weights, and what the taking of an interruption changes; a terminated program goes no further. In which
state a STXIT process begins, and whether an interruption inside one activates one again (log 45), is Host.ProgramInterruption's,
an open parameter (log 44), which is given the state of R442 whole (R441); the default host only puts the weight in GR3, and a
step after it is refused. That GR3 takes the weight with zeros to its left, and that a run ends at the termination, are the
model's choices (logs 15 and 14). -/
def Obligations.TakingAnInterruption : Prop :=
  ∀ s : State,
    (∀ k, s.stxit = false → s.interrupt k = .next { s with status := .terminated k }) ∧
    (∀ k ∈ [(Interruption.addressTranslation, (0x48 : Word)), (.privilegedOperation, 0x54), (.operation, 0x58),
        (.specification, 0x5C), (.data, 0x60), (.exponentOverflow, 0x64), (.divide, 0x68), (.significance, 0x6C),
        (.exponentUnderflow, 0x70), (.decimalOverflow, 0x74), (.fixedPointOverflow, 0x78)],
      (s.stxit = true → s.interrupt k.1 = .next
        (if s.cfg.hasServices then { s with status := .stxit k.1 } else { s.setGr 3 k.2 with status := .stxit k.1 })) ∧
      (s.status = .stxit k.1 → s.cfg.hasServices = true → ∃ t h, h = hostInterruption k.1 s ∧ step s = .next t ∧
        t.status = .running ∧ t.getGr 3 = k.2 ∧ (∀ r, r ≠ 3 → t.getGr r = h.gr[r.toNat]) ∧ t.fpr = h.fpr ∧ t.ar = h.ar ∧
        t.cc = h.cc ∧ t.pm = h.pm ∧ t.pc = trunc t.amode h.pc ∧ t.cfg = s.cfg ∧ t.tod = s.tod)) ∧
    (∀ k, s.status = .terminated k → step s = .fault (.programTerminated k)) ∧
    (∀ k, s.status = .stxit k → s.cfg.hasServices = false → step s = .refused (.stxitProcess k))

/-! ## Rules of the whole machine -/

/-- Only CPYA, LAE, LAM and SAR change an access register and only SAC the AR mode, and only on a CPU with ESA (R13, R19, R113);
only BASSM and BSM the addressing mode, on a CPU that has both (R18, R113); only SPM the program mask (R17); and only a
floating-point instruction a floating-point register. -/
def Obligations.WhoChangesWhat : Prop :=
  ∀ (i : Instr) (s t : State), exec i s = .next t →
    (writesAr (s.executed i) = false ∨ s.cfg.hasEsa = false → t.ar = s.ar) ∧
    (writesAsc (s.executed i) = false ∨ s.cfg.hasEsa = false → t.asc = s.asc) ∧
    (writesAmode (s.executed i) = false ∨ s.cfg.has31Bit = false → t.amode = s.amode) ∧
    (writesPm (s.executed i) = false → t.pm = s.pm) ∧
    (isFloating (s.executed i) = false → t.fpr = s.fpr)

/-- R52 and R61: a step of a running program changes a byte of storage only where a page is allocated for writing. (A step of BS2000,
after an SVC or an interruption, is the host's.) -/
def Obligations.StorageChangesOnlyWhereWritable : Prop :=
  ∀ s t : State, s.status = .running → step s = .next t → ∀ k, t.mem.get k ≠ s.mem.get k → s.KeyWritable k

/-- No step of a running program changes the page allocation, the access list or the STXIT process, which are BS2000's; no step at all
changes the parameters, and the clock never shows less than before (R487). -/
def Obligations.SystemPartsStayAndTheClockNeverFalls : Prop :=
  ∀ s t : State, step s = .next t →
    (s.status = .running → s.SameSystem t) ∧ t.cfg = s.cfg ∧ s.tod.toNat ≤ t.tod.toNat

/-! ## Operands -/

/-- R54: the address is the sum of the displacement and the registers whose fields are not 0, modulo 2^24 or 2^31. -/
def Obligations.EffectiveAddressIsTheTruncatedSum : Prop :=
  ∀ (s : State) (x b : Reg) (d : Disp),
    (s.opX x b d).addr = s.addrx x b d ∧ (s.opB b d).addr = s.addrx 0 b d ∧
    (s.addrx x b d).toNat =
      ((if x = 0 then 0 else (s.getGr x).toNat) + (if b = 0 then 0 else (s.getGr b).toNat) + d.toNat) %
        (if s.amode then 2 ^ 31 else 2 ^ 24)

/-- R56: outside the AR mode, and with a base field of 0, the operand lies in the program space; in the AR mode the access
register of the base chooses: 0 the program space, else SpaceOf. That SpaceOf is the space of the first entry of the access list with
this ALET, and no space without one, is the model's choice (log 10). -/
def Obligations.SpaceOfAnOperand : Prop :=
  ∀ (s : State) (x b : Reg) (d : Disp),
    (s.opX x b d).addr = s.addrx x b d ∧ (s.opX x b d).amode = s.amode ∧
    ((s.asc = false ∨ b = 0 ∨ s.getAr b = 0) → (s.opX x b d).space = some 0) ∧
    (s.asc = true → b ≠ 0 → s.getAr b ≠ 0 → (∀ e ∈ s.accessList, e.alet ≠ s.getAr b) → (s.opX x b d).space = none) ∧
    (∀ f e l, s.asc = true → b ≠ 0 → s.getAr b ≠ 0 → s.accessList = f ++ e :: l → (∀ a ∈ f, a.alet ≠ s.getAr b) →
      e.alet = s.getAr b → (s.opX x b d).space = some e.space)

/-- R58, R60 and R61: an aligned read checks the boundary and every byte, and reads big-endian. That the boundary is checked first is
the order of D11, the model's choice (log 28); R130 says that the manual does not state it. -/
def Obligations.AlignedReadsAreCheckedAndBigEndian : Prop :=
  ∀ (s : State) (l : Loc),
    (∀ n, s.cfg.strictAlignment = true → l.addr.toNat % n ≠ 0 → s.readAligned l n = .error .specification) ∧
    (∀ n i, (s.cfg.strictAlignment = false ∨ l.addr.toNat % n = 0) → i < n → s.byteAllowed .read l i = false →
      s.readAligned l n = .error .addressTranslation) ∧
    ((s.cfg.strictAlignment = false ∨ l.addr.toNat % 2 = 0) → (∀ i < 2, s.byteAllowed .read l i = true) →
      s.readH l = .ok (s.byteAt l 0 ++ s.byteAt l 1)) ∧
    ((s.cfg.strictAlignment = false ∨ l.addr.toNat % 4 = 0) → (∀ i < 4, s.byteAllowed .read l i = true) →
      s.readW l = .ok (s.byteAt l 0 ++ (s.byteAt l 1 ++ (s.byteAt l 2 ++ s.byteAt l 3)))) ∧
    ((s.cfg.strictAlignment = false ∨ l.addr.toNat % 8 = 0) → (∀ i < 8, s.byteAllowed .read l i = true) →
      s.readD l = .ok (s.byteAt l 0 ++ (s.byteAt l 1 ++ (s.byteAt l 2 ++ (s.byteAt l 3 ++
        (s.byteAt l 4 ++ (s.byteAt l 5 ++ (s.byteAt l 6 ++ s.byteAt l 7))))))))

/-! ## Fixed-point arithmetic -/

/-- AR, SR, LCR, LPR and LNR: the exact integer result, its low 32 bits, CC, and the overflow with its mask bit. -/
def Obligations.SignedRegisterArithmetic : Prop :=
  ∀ (s : State) (r1 r2 : Reg),
    ∀ c ∈ [((0x1A : Byte), Instr.ar r1 r2, (s.getGr r1).toInt + (s.getGr r2).toInt),
        (0x1B, .sr r1 r2, (s.getGr r1).toInt - (s.getGr r2).toInt), (0x13, .lcr r1 r2, -(s.getGr r2).toInt),
        (0x10, .lpr r1 r2, |(s.getGr r2).toInt|), (0x11, .lnr r1 r2, -|(s.getGr r2).toInt|)],
      decode [c.1, nibbles r1 r2] = .ok (c.2.1, []) ∧
      (-2 ^ 31 ≤ c.2.2 → c.2.2 ≤ 2 ^ 31 - 1 →
        exec c.2.1 s = .next { s.setGr r1 (BitVec.ofInt 32 c.2.2) with
          cc := if c.2.2 = 0 then 0 else if c.2.2 < 0 then 1 else 2, pc := s.nextAddr 2 }) ∧
      (c.2.2 < -2 ^ 31 ∨ 2 ^ 31 - 1 < c.2.2 →
        exec c.2.1 s =
          if s.pm.getMsbD 0 then
            ({ s.setGr r1 (BitVec.ofInt 32 c.2.2) with cc := 3, pc := s.nextAddr 2 } : State).interrupt .fixedPointOverflow
          else .next { s.setGr r1 (BitVec.ofInt 32 c.2.2) with cc := 3, pc := s.nextAddr 2 })

/-- A, S, AH and SH: the same with a word or a sign-extended halfword from storage. -/
def Obligations.SignedStorageArithmetic : Prop :=
  ∀ (s : State) (r1 x b : Reg) (d : Disp) (y : Int), ∀ c ∈ [(Instr.a r1 x b d, Instr.ah r1 x b d, (s.getGr r1).toInt + y),
      (.s r1 x b d, .sh r1 x b d, (s.getGr r1).toInt - y)],
    ∀ i, (i = c.1 ∧ (∃ w : Word, s.readW (s.opX x b d) = .ok w ∧ w.toInt = y) ∨
          i = c.2.1 ∧ (∃ h : Half, s.readH (s.opX x b d) = .ok h ∧ h.toInt = y)) →
      (-2 ^ 31 ≤ c.2.2 → c.2.2 ≤ 2 ^ 31 - 1 →
        exec i s = .next { s.setGr r1 (BitVec.ofInt 32 c.2.2) with
          cc := if c.2.2 = 0 then 0 else if c.2.2 < 0 then 1 else 2, pc := s.nextAddr 4 }) ∧
      (c.2.2 < -2 ^ 31 ∨ 2 ^ 31 - 1 < c.2.2 →
        exec i s =
          if s.pm.getMsbD 0 then
            ({ s.setGr r1 (BitVec.ofInt 32 c.2.2) with cc := 3, pc := s.nextAddr 4 } : State).interrupt .fixedPointOverflow
          else .next { s.setGr r1 (BitVec.ofInt 32 c.2.2) with cc := 3, pc := s.nextAddr 4 })

/-- ALR, AL, SLR and SL: the result modulo 2^32, and CC by the carry (for a subtraction: no borrow) and by zero. That a failing operand
of AL and SL changes nothing is the model's choice after D15 (log 29). -/
def Obligations.LogicalAddAndSubtract : Prop :=
  ∀ (s : State) (r1 r2 x b : Reg) (d : Disp) (y : Word),
    ∀ c ∈ [((0x1E : Byte), (0x5E : Byte), Instr.alr r1 r2, Instr.al r1 x b d, (s.getGr r1).toNat + y.toNat),
        (0x1F, 0x5F, .slr r1 r2, .sl r1 x b d, (s.getGr r1).toNat + 2 ^ 32 - y.toNat)],
      decode [c.1, nibbles r1 r2] = .ok (c.2.2.1, []) ∧
      decode ([c.2.1, nibbles r1 x] ++ baseDisp b d) = .ok (c.2.2.2.1, []) ∧
      (∀ i len, (i = c.2.2.1 ∧ len = 2 ∧ y = s.getGr r2 ∨
          i = c.2.2.2.1 ∧ len = 4 ∧ s.readW (s.opX x b d) = .ok y) →
        exec i s = .next { s.setGr r1 (BitVec.ofNat 32 c.2.2.2.2) with
          cc :=
            if c.2.2.2.2 < 2 ^ 32 then (if c.2.2.2.2 % 2 ^ 32 = 0 then 0 else 1)
            else (if c.2.2.2.2 % 2 ^ 32 = 0 then 2 else 3),
          pc := s.nextAddr len }) ∧
      (∀ k, s.readW (s.opX x b d) = .error k → exec c.2.2.2.1 s = s.interrupt k)

/-- CR, C, CH, CLR, CL and CLI: CC is 0, 1 or 2 by the order of the two numbers, and nothing else changes. That a failing operand of C,
CH, CL and CLI changes nothing is the model's choice after D15 (log 29). -/
def Obligations.CompareSetsOnlyTheConditionCode : Prop :=
  ∀ (s : State) (r1 r2 x b : Reg) (d : Disp) (w : Word) (h : Half) (m i2 : Byte),
    (∀ k, s.readW (s.opX x b d) = .error k →
      exec (.c r1 x b d) s = s.interrupt k ∧ exec (.cl r1 x b d) s = s.interrupt k) ∧
    (∀ k, s.readH (s.opX x b d) = .error k → exec (.ch r1 x b d) s = s.interrupt k) ∧
    (∀ k, s.readB (s.opB b d) = .error k → exec (.cli b d i2) s = s.interrupt k) ∧
    ∀ c ∈ [([(0x19 : Byte), nibbles r1 r2], Instr.cr r1 r2, 2, True, (s.getGr r1).toInt, (s.getGr r2).toInt),
        ([0x59, nibbles r1 x] ++ baseDisp b d, .c r1 x b d, 4, s.readW (s.opX x b d) = .ok w, (s.getGr r1).toInt, w.toInt),
        ([0x49, nibbles r1 x] ++ baseDisp b d, .ch r1 x b d, 4, s.readH (s.opX x b d) = .ok h, (s.getGr r1).toInt, h.toInt),
        ([0x15, nibbles r1 r2], .clr r1 r2, 2, True, ((s.getGr r1).toNat : Int), ((s.getGr r2).toNat : Int)),
        ([0x55, nibbles r1 x] ++ baseDisp b d, .cl r1 x b d, 4, s.readW (s.opX x b d) = .ok w, ((s.getGr r1).toNat : Int),
          (w.toNat : Int)),
        ([0x95, i2] ++ baseDisp b d, .cli b d i2, 4, s.readB (s.opB b d) = .ok m, (m.toNat : Int), (i2.toNat : Int))],
      decode c.1 = .ok (c.2.1, []) ∧
      (c.2.2.2.1 → exec c.2.1 s = .next { s with
        cc := if c.2.2.2.2.1 = c.2.2.2.2.2 then 0 else if c.2.2.2.2.1 < c.2.2.2.2.2 then 1 else 2,
        pc := s.nextAddr c.2.2.1 })

/-- CLM: the selected bytes of the register against as many bytes of storage; and TM: the selected bits. The model's choices: with a
mask of 0 CLM checks one byte (D15, log 29) and TM gives CC 0 (D19, log 37). -/
def Obligations.CompareUnderMaskAndTestUnderMask : Prop :=
  ∀ (s : State) (r1 b : Reg) (d : Disp) (m3 : Mask) (i2 : Byte),
    (s.allows .read (s.opB b d) (if m3 = 0 then 1 else m3.cpop.toNat) = true →
      exec (.clm r1 m3 b d) s = .next { s with
        cc :=
          if m3 = 0 ∨ selectBytes (s.getGr r1) (maskBytes m3) 0 = s.value (s.opB b d) m3.cpop.toNat then 0
          else if selectBytes (s.getGr r1) (maskBytes m3) 0 < s.value (s.opB b d) m3.cpop.toNat then 1 else 2,
        pc := s.nextAddr 4 }) ∧
    (s.byteAllowed .read (s.opB b d) 0 = true →
      exec (.tm b d i2) s = .next { s with
        cc :=
          if s.byteAt (s.opB b d) 0 &&& i2 = 0 then 0 else if ~~~ s.byteAt (s.opB b d) 0 &&& i2 = 0 then 3 else 1,
        pc := s.nextAddr 4 })

/-- NR, N, OR, O, XR and X: the connective bit by bit, CC 0 for a zero result and else 1. That a failing operand of N, O and X changes
nothing is the model's choice after D15 (log 29). -/
def Obligations.ConnectivesOfWords : Prop :=
  ∀ (s : State) (r1 r2 x b : Reg) (d : Disp) (y : Word),
    ∀ c ∈ [((0x14 : Byte), (0x54 : Byte), Instr.nr r1 r2, Instr.n r1 x b d, s.getGr r1 &&& y),
        (0x16, 0x56, .or r1 r2, .o r1 x b d, s.getGr r1 ||| y), (0x17, 0x57, .xr r1 r2, .x r1 x b d, s.getGr r1 ^^^ y)],
      decode [c.1, nibbles r1 r2] = .ok (c.2.2.1, []) ∧
      decode ([c.2.1, nibbles r1 x] ++ baseDisp b d) = .ok (c.2.2.2.1, []) ∧
      (∀ i len, (i = c.2.2.1 ∧ len = 2 ∧ y = s.getGr r2 ∨
          i = c.2.2.2.1 ∧ len = 4 ∧ s.readW (s.opX x b d) = .ok y) →
        exec i s = .next { s.setGr r1 c.2.2.2.2 with cc := if c.2.2.2.2 = 0 then 0 else 1, pc := s.nextAddr len }) ∧
      (∀ k, s.readW (s.opX x b d) = .error k → exec c.2.2.2.1 s = s.interrupt k)

/-- MR and M: the 64-bit product in the pair; MH: the low 32 bits; no CC and no overflow. -/
def Obligations.ProductsAreExact : Prop :=
  ∀ (s : State) (r1 r2 x b : Reg) (d : Disp) (y : Word) (h : Half),
    (∀ i len, (i = Instr.mr r1 r2 ∧ len = 2 ∧ y = s.getGr r2 ∨
        i = Instr.m r1 x b d ∧ len = 4 ∧ s.readW (s.opX x b d) = .ok y) → r1.getLsbD 0 = false →
      ∃ t, exec i s = .next t ∧ (t.getPair r1).toInt = (s.getGr (r1 + 1)).toInt * y.toInt ∧
        (∀ r, r ≠ r1 → r ≠ r1 + 1 → t.getGr r = s.getGr r) ∧ { t with gr := s.gr } = s.advance len) ∧
    (s.readH (s.opX x b d) = .ok h →
      exec (.mh r1 x b d) s =
        .next { s.setGr r1 (BitVec.ofInt 32 ((s.getGr r1).toInt * h.toInt)) with pc := s.nextAddr 4 })

/-- DR and D: quotient and remainder are those of the exact division, the remainder less than the divisor and with the dividend's
sign; a divisor of 0 and a quotient that does not fit interrupt. That nothing is changed then is the model's choice after D15 (log
29); R201 says that the manual does not state it. -/
def Obligations.DivisionIsExact : Prop :=
  ∀ (s : State) (r1 r2 x b : Reg) (d : Disp) (y : Word) (i : Instr) (len : Nat),
    (i = .dr r1 r2 ∧ len = 2 ∧ y = s.getGr r2 ∨ i = .d r1 x b d ∧ len = 4 ∧ s.readW (s.opX x b d) = .ok y) →
    r1.getLsbD 0 = false →
    (y = 0 → exec i s = s.interrupt .divide) ∧
    (y ≠ 0 → ∀ q r : Int, (s.getPair r1).toInt = q * y.toInt + r → |r| < |y.toInt| → 0 ≤ r * (s.getPair r1).toInt →
      (-2 ^ 31 ≤ q → q ≤ 2 ^ 31 - 1 →
        ∃ t, exec i s = .next t ∧ (t.getGr r1).toInt = r ∧ (t.getGr (r1 + 1)).toInt = q ∧
          (∀ r, r ≠ r1 → r ≠ r1 + 1 → t.getGr r = s.getGr r) ∧ { t with gr := s.gr } = s.advance len) ∧
      (q < -2 ^ 31 ∨ 2 ^ 31 - 1 < q → exec i s = s.interrupt .divide))

/-! ## Loads and stores -/

/-- LR, L, LH, LA and IC write one register and leave CC; LTR also sets CC by the sign. -/
def Obligations.LoadsOfOneRegister : Prop :=
  ∀ (s : State) (r1 r2 x b : Reg) (d : Disp) (w : Word) (h : Half) (m : Byte),
    exec (.lr r1 r2) s = .next { s.setGr r1 (s.getGr r2) with pc := s.nextAddr 2 } ∧
    exec (.ltr r1 r2) s = .next { s.setGr r1 (s.getGr r2) with
      cc := if s.getGr r2 = 0 then 0 else if (s.getGr r2).msb then 1 else 2, pc := s.nextAddr 2 } ∧
    exec (.la r1 x b d) s = .next { s.setGr r1 (s.addrx x b d) with pc := s.nextAddr 4 } ∧
    (s.readW (s.opX x b d) = .ok w → exec (.l r1 x b d) s = .next { s.setGr r1 w with pc := s.nextAddr 4 }) ∧
    (s.readH (s.opX x b d) = .ok h →
      exec (.lh r1 x b d) s = .next { s.setGr r1 (BitVec.ofInt 32 h.toInt) with pc := s.nextAddr 4 }) ∧
    (s.readB (s.opX x b d) = .ok m →
      exec (.ic r1 x b d) s =
        .next { s.setGr r1 ((s.getGr r1).extractLsb' 8 24 ++ m) with pc := s.nextAddr 4 })

/-- ICM: each byte of the register whose mask bit is 1 takes the next byte of storage, the others stay; CC by the field. STCM: the
bytes of the register whose mask bits are 1 go to storage, one after the other. With a mask of 0 ICM checks one byte and STCM none:
the model's choice after D15 (log 29). -/
def Obligations.CharactersUnderMask : Prop :=
  ∀ (s : State) (r1 b : Reg) (d : Disp) (m3 : Mask),
    (s.allows .read (s.opB b d) (if m3 = 0 then 1 else m3.cpop.toNat) = true →
      ∃ t, exec (.icm r1 m3 b d) s = .next t ∧
        (∀ j < 4, (t.getGr r1).extractLsb' (24 - 8 * j) 8 =
          if m3.getMsbD j then s.byteAt (s.opB b d) ((List.range j).countP (fun i => m3.getMsbD i))
          else (s.getGr r1).extractLsb' (24 - 8 * j) 8) ∧
        t.cc = (if ∀ i < m3.cpop.toNat, s.byteAt (s.opB b d) i = 0 then 0
          else if (s.byteAt (s.opB b d) 0).msb then 1 else 2) ∧
        (∀ r, r ≠ r1 → t.getGr r = s.getGr r) ∧ { t with gr := s.gr, cc := s.cc } = s.advance 4) ∧
    (s.allows .write (s.opB b d) m3.cpop.toNat = true →
      ∃ t, exec (.stcm r1 m3 b d) s = .next t ∧
        (∀ j < 4, m3.getMsbD j = true →
          t.byteAt (s.opB b d) ((List.range j).countP (fun i => m3.getMsbD i)) = (s.getGr r1).extractLsb' (24 - 8 * j) 8) ∧
        s.SameOutside t (s.opB b d) m3.cpop.toNat ∧ { t with mem := s.mem } = s.advance 4)

/-- LM, LAM, STM and STAM: the registers from R1 to R3, past 15 to 0, and as many consecutive words; a load leaves the other
registers, a store every other byte of storage. -/
def Obligations.LoadAndStoreMultiple : Prop :=
  ∀ (s : State) (r1 r3 b : Reg) (d : Disp) (n : Nat),
    n = (if r1.toNat ≤ r3.toNat then r3.toNat - r1.toNat + 1 else r3.toNat + 17 - r1.toNat) →
    s.misaligned (s.opB b d) 4 = false →
    (s.allows .read (s.opB b d) (4 * n) = true →
      (∃ t, exec (.lm r1 r3 b d) s = .next t ∧
        (∀ k < n, (t.getGr (r1 + BitVec.ofNat 4 k)).toNat = s.value ((s.opB b d).plus (4 * k)) 4) ∧
        (∀ k, n ≤ k → k < 16 → t.getGr (r1 + BitVec.ofNat 4 k) = s.getGr (r1 + BitVec.ofNat 4 k)) ∧
        { t with gr := s.gr } = s.advance 4) ∧
      (s.cfg.hasEsa = true → ∃ t, exec (.lam r1 r3 b d) s = .next t ∧
        (∀ k < n, (t.getAr (r1 + BitVec.ofNat 4 k)).toNat = s.value ((s.opB b d).plus (4 * k)) 4) ∧
        (∀ k, n ≤ k → k < 16 → t.getAr (r1 + BitVec.ofNat 4 k) = s.getAr (r1 + BitVec.ofNat 4 k)) ∧
        { t with ar := s.ar } = s.advance 4)) ∧
    (s.allows .write (s.opB b d) (4 * n) = true →
      ∀ c ∈ [(Instr.stm r1 r3 b d, s.getGr, True), (.stam r1 r3 b d, s.getAr, s.cfg.hasEsa = true)], c.2.2 →
      ∃ t, exec c.1 s = .next t ∧
        (∀ k < n, t.value ((s.opB b d).plus (4 * k)) 4 = (c.2.1 (r1 + BitVec.ofNat 4 k)).toNat) ∧
        s.SameOutside t (s.opB b d) (4 * n) ∧ { t with mem := s.mem } = s.advance 4)

/-- ST, STH, STC, MVI, STE and STD store the right bytes of a register or the immediate byte, and change no other byte and
nothing else. -/
def Obligations.StoresOfOneOperand : Prop :=
  ∀ (s : State) (r1 x b : Reg) (d : Disp) (i2 : Byte),
    ∀ c ∈ [(Instr.st r1 x b d, s.opX x b d, 4, 4, True, (s.getGr r1).toNat),
        (.sth r1 x b d, s.opX x b d, 2, 2, True, (s.getGr r1).toNat % 2 ^ 16),
        (.stc r1 x b d, s.opX x b d, 1, 1, True, (s.getGr r1).toNat % 2 ^ 8),
        (.mvi b d i2, s.opB b d, 1, 1, True, i2.toNat),
        (.ste r1 x b d, s.opX x b d, 4, 4, r1.toNat ∈ [0, 2, 4, 6], (s.getFpr r1).toNat / 2 ^ 32),
        (.std r1 x b d, s.opX x b d, 8, 8, r1.toNat ∈ [0, 2, 4, 6], (s.getFpr r1).toNat)],
      c.2.2.2.2.1 → s.misaligned c.2.1 c.2.2.1 = false → s.allows .write c.2.1 c.2.2.2.1 = true →
      ∃ t, exec c.1 s = .next t ∧ t.value c.2.1 c.2.2.2.1 = c.2.2.2.2.2 ∧ s.SameOutside t c.2.1 c.2.2.2.1 ∧
        { t with mem := s.mem } = s.advance 4

/-- NI, OI, XI and TS update one byte in place and set CC. -/
def Obligations.UpdatesOfOneByte : Prop :=
  ∀ (s : State) (b : Reg) (d : Disp) (i2 : Byte), s.allows .update (s.opB b d) 1 = true →
    ∀ c ∈ [(Instr.ni b d i2, s.byteAt (s.opB b d) 0 &&& i2, s.byteAt (s.opB b d) 0 &&& i2 = 0),
        (.oi b d i2, s.byteAt (s.opB b d) 0 ||| i2, s.byteAt (s.opB b d) 0 ||| i2 = 0),
        (.xi b d i2, s.byteAt (s.opB b d) 0 ^^^ i2, s.byteAt (s.opB b d) 0 = i2),
        (.ts b d, 0xFF, (s.byteAt (s.opB b d) 0).toNat < 128)],
      ∃ t, exec c.1 s = .next t ∧ t.byteAt (s.opB b d) 0 = c.2.1 ∧ (c.2.2 → t.cc = 0) ∧ (¬ c.2.2 → t.cc = 1) ∧
        s.SameOutside t (s.opB b d) 1 ∧ { t with mem := s.mem, cc := s.cc } = s.advance 4

/-! ## Shifts and branches -/

/-- SLL, SRL, SLDL and SRDL: by the low 6 bits of the address, zeros enter, CC stays. SRA and SRDA: the floor of the division by
a power of 2, and CC by its sign. -/
def Obligations.LogicalAndRightShifts : Prop :=
  ∀ (s : State) (r1 b : Reg) (d : Disp) (n : Nat), n = (s.addrx 0 b d).toNat % 64 →
    exec (.sll r1 b d) s = .next { s.setGr r1 (BitVec.ofNat 32 ((s.getGr r1).toNat * 2 ^ n)) with pc := s.nextAddr 4 } ∧
    exec (.srl r1 b d) s = .next { s.setGr r1 (BitVec.ofNat 32 ((s.getGr r1).toNat / 2 ^ n)) with pc := s.nextAddr 4 } ∧
    (r1.getLsbD 0 = false →
      exec (.sldl r1 b d) s = .next { s.setPair r1 (BitVec.ofNat 64 ((s.getPair r1).toNat * 2 ^ n)) with pc := s.nextAddr 4 } ∧
      exec (.srdl r1 b d) s = .next { s.setPair r1 (BitVec.ofNat 64 ((s.getPair r1).toNat / 2 ^ n)) with pc := s.nextAddr 4 }) ∧
    (∃ t, exec (.sra r1 b d) s = .next t ∧ (t.getGr r1).toInt = (s.getGr r1).toInt / 2 ^ n ∧
      t.cc = (if (t.getGr r1).toInt = 0 then 0 else if (t.getGr r1).toInt < 0 then 1 else 2) ∧
      (∀ r, r ≠ r1 → t.getGr r = s.getGr r) ∧ { t with gr := s.gr, cc := s.cc } = s.advance 4) ∧
    (r1.getLsbD 0 = false → ∃ t, exec (.srda r1 b d) s = .next t ∧ (t.getPair r1).toInt = (s.getPair r1).toInt / 2 ^ n ∧
      t.cc = (if (t.getPair r1).toInt = 0 then 0 else if (t.getPair r1).toInt < 0 then 1 else 2) ∧
      (∀ r, r ≠ r1 → r ≠ r1 + 1 → t.getGr r = s.getGr r) ∧ { t with gr := s.gr, cc := s.cc } = s.advance 4)

/-- SLA and SLDA: the sign stays and the other bits move; overflow exactly where the product with the power of 2 does not fit. -/
def Obligations.ArithmeticLeftShifts : Prop :=
  ∀ (s : State) (r1 b : Reg) (d : Disp) (n : Nat), n = (s.addrx 0 b d).toNat % 64 →
    (∃ t : State, (t.getGr r1).toNat = (s.getGr r1).toNat / 2 ^ 31 * 2 ^ 31 + (s.getGr r1).toNat * 2 ^ n % 2 ^ 31 ∧
      (∀ r, r ≠ r1 → t.getGr r = s.getGr r) ∧ { t with gr := s.gr, cc := s.cc } = s.advance 4 ∧
      (-2 ^ 31 ≤ (s.getGr r1).toInt * 2 ^ n → (s.getGr r1).toInt * 2 ^ n ≤ 2 ^ 31 - 1 → exec (.sla r1 b d) s = .next t ∧
        (t.getGr r1).toInt = (s.getGr r1).toInt * 2 ^ n ∧
        t.cc = if (s.getGr r1).toInt = 0 then 0 else if (s.getGr r1).toInt < 0 then 1 else 2) ∧
      ((s.getGr r1).toInt * 2 ^ n < -2 ^ 31 ∨ 2 ^ 31 - 1 < (s.getGr r1).toInt * 2 ^ n → t.cc = 3 ∧
        exec (.sla r1 b d) s = if s.pm.getMsbD 0 then t.interrupt .fixedPointOverflow else .next t)) ∧
    (r1.getLsbD 0 = false →
      ∃ t : State, (t.getPair r1).toNat = (s.getPair r1).toNat / 2 ^ 63 * 2 ^ 63 + (s.getPair r1).toNat * 2 ^ n % 2 ^ 63 ∧
      (∀ r, r ≠ r1 → r ≠ r1 + 1 → t.getGr r = s.getGr r) ∧ { t with gr := s.gr, cc := s.cc } = s.advance 4 ∧
      (-2 ^ 63 ≤ (s.getPair r1).toInt * 2 ^ n → (s.getPair r1).toInt * 2 ^ n ≤ 2 ^ 63 - 1 →
        exec (.slda r1 b d) s = .next t ∧ (t.getPair r1).toInt = (s.getPair r1).toInt * 2 ^ n ∧
        t.cc = if (s.getPair r1).toInt = 0 then 0 else if (s.getPair r1).toInt < 0 then 1 else 2) ∧
      ((s.getPair r1).toInt * 2 ^ n < -2 ^ 63 ∨ 2 ^ 63 - 1 < (s.getPair r1).toInt * 2 ^ n → t.cc = 3 ∧
        exec (.slda r1 b d) s = if s.pm.getMsbD 0 then t.interrupt .fixedPointOverflow else .next t))

/-- BALR and BAL: R1 takes the link word, then the branch goes to the address formed before; BALR with an R2 field of 0 does not
branch. As the target of EX they save the address after the EX and the length code 10 of the EX (R203). The places of CC and PM in the
24-bit link word are the model's presumption (log 26). -/
def Obligations.BranchAndLink : Prop :=
  ∀ (s : State) (r1 r2 x b : Reg) (d : Disp) (n : Nat → Word),
    n = (fun len => trunc s.amode (s.pc + BitVec.ofNat 32 (if s.viaEx then 4 else len))) →
    exec (.balr r1 r2) s = .next { s.setGr r1
        (if s.amode then BitVec.ofNat 32 (2 ^ 31 + (n 2).toNat)
          else BitVec.ofNat 32 ((if s.viaEx then 2 else 1) * 2 ^ 30 + s.cc.toNat * 2 ^ 28 + s.pm.toNat * 2 ^ 24 + (n 2).toNat)) with
      pc := if r2 = 0 then n 2 else trunc s.amode (s.getGr r2) } ∧
    exec (.bal r1 x b d) s = .next { s.setGr r1
        (if s.amode then BitVec.ofNat 32 (2 ^ 31 + (n 4).toNat)
          else BitVec.ofNat 32 (2 * 2 ^ 30 + s.cc.toNat * 2 ^ 28 + s.pm.toNat * 2 ^ 24 + (n 4).toNat)) with
      pc := s.addrx x b d }

/-- BASR, BAS, BASSM and BSM: the mode in bit 0 and the next address, and for the last two the new mode from bit 0 of the target;
a field of 0 for R2 neither branches nor sets the mode, one for R1 of BSM saves nothing. -/
def Obligations.BranchAndSave : Prop :=
  ∀ (s : State) (r1 r2 x b : Reg) (d : Disp) (m : Bool), s.cfg.has31Bit = true → m = (s.getGr r2).msb →
    exec (.basr r1 r2) s = .next { s.setGr r1 (BitVec.ofNat 32 (s.amode.toNat * 2 ^ 31 + (s.nextAddr 2).toNat)) with
      pc := if r2 = 0 then s.nextAddr 2 else trunc s.amode (s.getGr r2) } ∧
    exec (.bas r1 x b d) s = .next { s.setGr r1 (BitVec.ofNat 32 (s.amode.toNat * 2 ^ 31 + (s.nextAddr 4).toNat)) with
      pc := s.addrx x b d } ∧
    exec (.bassm r1 r2) s = .next { s.setGr r1 (BitVec.ofNat 32 (s.amode.toNat * 2 ^ 31 + (s.nextAddr 2).toNat)) with
      amode := if r2 = 0 then s.amode else m
      pc := if r2 = 0 then s.nextAddr 2 else trunc m (s.getGr r2) } ∧
    exec (.bsm r1 r2) s = .next { (if r1 = 0 then s else
        s.setGr r1 (BitVec.ofNat 32 (s.amode.toNat * 2 ^ 31 + (s.getGr r1).toNat % 2 ^ 31))) with
      amode := if r2 = 0 then s.amode else m
      pc := if r2 = 0 then s.nextAddr 2 else trunc m (s.getGr r2) }

/-- BCR, BC, BCTR, BCT, BXH and BXLE: when they branch, and what they count. -/
def Obligations.ConditionalAndCountingBranches : Prop :=
  ∀ (s : State) (r1 r2 r3 x b : Reg) (d : Disp) (m1 : Mask),
    exec (.bcr m1 r2) s = .next { s with
      pc := if m1.getMsbD s.cc.toNat = true ∧ r2 ≠ 0 then trunc s.amode (s.getGr r2) else s.nextAddr 2 } ∧
    exec (.bc m1 x b d) s = .next { s with pc := if m1.getMsbD s.cc.toNat = true then s.addrx x b d else s.nextAddr 4 } ∧
    exec (.bctr r1 r2) s = .next { s.setGr r1 (s.getGr r1 - 1) with
      pc := if s.getGr r1 ≠ 1 ∧ r2 ≠ 0 then trunc s.amode (s.getGr r2) else s.nextAddr 2 } ∧
    exec (.bct r1 x b d) s = .next { s.setGr r1 (s.getGr r1 - 1) with
      pc := if s.getGr r1 ≠ 1 then s.addrx x b d else s.nextAddr 4 } ∧
    (∀ c, c = (if r3.getLsbD 0 then s.getGr r3 else s.getGr (r3 + 1)) →
      exec (.bxh r1 r3 b d) s = .next { s.setGr r1 (s.getGr r1 + s.getGr r3) with
        pc := if c.toInt < (s.getGr r1 + s.getGr r3).toInt then s.addrx 0 b d else s.nextAddr 4 } ∧
      exec (.bxle r1 r3 b d) s = .next { s.setGr r1 (s.getGr r1 + s.getGr r3) with
        pc := if (s.getGr r1 + s.getGr r3).toInt ≤ c.toInt then s.addrx 0 b d else s.nextAddr 4 })

/-! ## Compare and swap, mask, clock, calls, EX -/

/-- CS and CDS: equal, the third operand is stored; unequal, the first takes the second. -/
def Obligations.CompareAndSwap : Prop :=
  ∀ (s : State) (r1 r3 b : Reg) (d : Disp),
    ((s.addrx 0 b d).toNat % 4 = 0 → s.allows .update (s.opB b d) 4 = true →
      (s.value (s.opB b d) 4 = (s.getGr r1).toNat → ∃ t, exec (.cs r1 r3 b d) s = .next t ∧
        t.value (s.opB b d) 4 = (s.getGr r3).toNat ∧ s.SameOutside t (s.opB b d) 4 ∧
        { t with mem := s.mem } = { s.advance 4 with cc := 0 }) ∧
      (s.value (s.opB b d) 4 ≠ (s.getGr r1).toNat →
        exec (.cs r1 r3 b d) s =
          .next { s.setGr r1 (BitVec.ofNat 32 (s.value (s.opB b d) 4)) with cc := 1, pc := s.nextAddr 4 })) ∧
    (r1.getLsbD 0 = false → r3.getLsbD 0 = false → (s.addrx 0 b d).toNat % 8 = 0 →
      s.allows .update (s.opB b d) 8 = true →
      (s.value (s.opB b d) 8 = (s.getPair r1).toNat → ∃ t, exec (.cds r1 r3 b d) s = .next t ∧
        t.value (s.opB b d) 8 = (s.getPair r3).toNat ∧ s.SameOutside t (s.opB b d) 8 ∧
        { t with mem := s.mem } = { s.advance 4 with cc := 0 }) ∧
      (s.value (s.opB b d) 8 ≠ (s.getPair r1).toNat →
        exec (.cds r1 r3 b d) s =
          .next { s.setPair r1 (BitVec.ofNat 64 (s.value (s.opB b d) 8)) with cc := 1, pc := s.nextAddr 4 }))

/-- SPM and IPM: CC and the mask from and to bits 2 to 7 of a register; whatever the ignored bits of the instruction hold. -/
def Obligations.ProgramMaskToAndFromARegister : Prop :=
  ∀ (s : State) (r1 q : Reg) (z : Byte),
    decode [0x04, nibbles r1 q] = .ok (.spm r1, []) ∧
    exec (.spm r1) s = .next { s with
      cc := BitVec.ofNat 2 ((s.getGr r1).toNat / 2 ^ 28), pm := BitVec.ofNat 4 ((s.getGr r1).toNat / 2 ^ 24),
      pc := s.nextAddr 2 } ∧
    decode [0xB2, 0x22, z, nibbles r1 q] = .ok (.ipm r1, []) ∧
    exec (.ipm r1) s = .next { s.setGr r1 (BitVec.ofNat 32
      (s.cc.toNat * 2 ^ 28 + s.pm.toNat * 2 ^ 24 + (s.getGr r1).toNat % 2 ^ 24)) with pc := s.nextAddr 4 }

/-- MC: a class up to 15 does nothing, one above is rejected, with nothing changed by the model's choice after D15 (log 29). SVC: its code goes to the privileged register (log 16), CC stays, and
control goes to BS2000; what Host.Svc does is an open parameter: the state becomes the one it gives, in which the program goes on or
has ended (log 44), and the default
of D4 leaves all else. STCK: the stored doubleword is the clock of the next state, which is not less than before (log 12), and
CC is 0. -/
def Obligations.CallsAndClock : Prop :=
  ∀ (s : State) (b : Reg) (d : Disp) (c : Byte),
    (c.toNat ≤ 15 → exec (.mc b d c) s = .next { s with pc := s.nextAddr 4 }) ∧
    (15 < c.toNat → exec (.mc b d c) s = s.interrupt .specification) ∧
    exec (.svc c) s = .next { s with
      svcCode := c, pc := s.nextAddr 2, status := if s.cfg.hasServices then .service else s.status } ∧
    (s.status = .service → ∃ t h, h = hostSvc s.svcCode s ∧ step s = .next t ∧
      t.status = (if h.goesOn then .running else .ended) ∧ t.gr = h.gr ∧ t.fpr = h.fpr ∧ t.ar = h.ar ∧ t.cc = h.cc ∧
      t.pm = h.pm ∧ t.pc = trunc t.amode h.pc ∧ t.pages = h.pages ∧ t.accessList = h.accessList ∧ t.stxit = h.stxit ∧
      t.cfg = s.cfg ∧ t.tod = s.tod ∧ t.svcCode = s.svcCode) ∧
    (s.status = .ended → step s = .fault .programEnded) ∧
    (s.misaligned (s.opB b d) 8 = false → s.allows .write (s.opB b d) 8 = true →
      ∃ t, exec (.stck b d) s = .next t ∧ t.value (s.opB b d) 8 = t.tod.toNat ∧ s.tod.toNat ≤ t.tod.toNat ∧
        s.SameOutside t (s.opB b d) 8 ∧
        { t with mem := s.mem, tod := s.tod, free := s.free } = { s.advance 4 with cc := 0 })

/-- EX: the target, its second byte ORed with the low byte of R1 unless the field is 0, is executed with the length of EX; with LR as
target the registers of the modified byte are used. An odd target address and an EX as target are Specification interruptions, bytes
of the target that cannot be read an address translation interruption; that nothing is changed then, and that the odd
address comes first, are the model's choices after D15 (log 29) and D11 (log 28). What the target refuses, EX refuses. A target that is no
instruction is not foreseeable for the manual; the model decodes it like a fetched one (U6, log 30). The target stands in the program
space, also in AR mode (D13, log 38). -/
def Obligations.ExecuteRunsTheModifiedTarget : Prop :=
  ∀ (s : State) (r1 x b : Reg) (d : Disp) (a : Word), s.viaEx = false → a = s.addrx x b d →
    (a.getLsbD 0 = true → exec (.ex r1 x b d) s = s.interrupt .specification) ∧
    (a.getLsbD 0 = false →
      s.allows .read (s.code a) 2 = false ∨ s.allows .read (s.code a) (ilen (s.byteAt (s.code a) 0)) = false →
      exec (.ex r1 x b d) s = s.interrupt .addressTranslation) ∧
    ∀ (b0 b1 : Byte) (rest : List Byte), s.fetchAt a = .ok (b0 :: b1 :: rest) →
      ∀ m, m = (if r1 = 0 then b1 else b1 ||| BitVec.ofNat 8 (s.getGr r1).toNat) →
        (∀ i tail t, decode (b0 :: m :: rest) = .ok (i, tail) → (∀ q1 q2 q3 q4, i ≠ .ex q1 q2 q3 q4) →
          exec i { s with viaEx := true } = .next t → exec (.ex r1 x b d) s = .next { t with viaEx := false }) ∧
        (∀ i tail f, decode (b0 :: m :: rest) = .ok (i, tail) → (∀ q1 q2 q3 q4, i ≠ .ex q1 q2 q3 q4) →
          exec i { s with viaEx := true } = .refused f → exec (.ex r1 x b d) s = .refused f) ∧
        (∀ op, decode (b0 :: m :: rest) = .error (.unlistedOpcode op) →
          exec (.ex r1 x b d) s = s.interrupt (if Config.unlistedPrivileged op then .privilegedOperation else .operation)) ∧
        (b0 = 0x44 → exec (.ex r1 x b d) s = s.interrupt .specification) ∧
        (b0 = 0x18 → exec (.ex r1 x b d) s =
          .next { s.setGr (hiNibble m) (s.getGr (loNibble m)) with pc := trunc s.amode (s.pc + 4) })

/-! ## Storage to storage -/

/-- MVC, MVN, MVZ, NC, OC and XC, left to right, each byte stored before the next is read: byte i of operand 1 becomes the function
of what it held and of byte i of operand 2, which is an earlier result where it is one of the bytes already stored. -/
def Obligations.MovesAndConnectivesByteByByte : Prop :=
  ∀ (s : State) (l : Nat) (b1 : Reg) (d1 : Disp) (b2 : Reg) (d2 : Disp) (p q : Loc), 1 ≤ l → l ≤ 256 →
    p = s.opB b1 d1 → q = s.opB b2 d2 → s.allows .read q l = true →
    ∀ c ∈ [(Instr.mvc l b1 d1 b2 d2, Access.write, false, fun (_ y : Byte) => y),
        (.mvn l b1 d1 b2 d2, .update, false, fun x y => nibbles (hiNibble x) (loNibble y)),
        (.mvz l b1 d1 b2 d2, .update, false, fun x y => nibbles (hiNibble y) (loNibble x)),
        (.nc l b1 d1 b2 d2, .update, true, fun x y => x &&& y), (.oc l b1 d1 b2 d2, .update, true, fun x y => x ||| y),
        (.xc l b1 d1 b2 d2, .update, true, fun x y => x ^^^ y)],
      s.allows c.2.1 p l = true →
      ∃ t, exec c.1 s = .next t ∧
        (∀ i < l, ∃ y, t.byteAt p i = c.2.2.2 (s.byteAt p i) y ∧
          ((∀ j < i, p.key j ≠ q.key i) → y = s.byteAt q i) ∧ (∀ j < i, p.key j = q.key i → y = t.byteAt p j)) ∧
        t.cc = (if c.2.2.1 then (if ∀ i < l, t.byteAt p i = 0 then 0 else 1) else s.cc) ∧
        s.SameOutside t p l ∧ { t with mem := s.mem, cc := s.cc } = s.advance 6

/-- CLC ends at the first unequal pair; equal fields give CC 0. TRT: the first byte whose table byte is not zero gives its address to
GR1, the table byte to GR2, and CC 1 or 2; without one CC is 0 and nothing else changes. That only what lies up to the end of either
must be readable, and that nothing is changed where it is not, is the model's choice after D15 (log 29). -/
def Obligations.ComparesAndTestsOfFields : Prop :=
  ∀ (s : State) (l k : Nat) (b1 : Reg) (d1 : Disp) (b2 : Reg) (d2 : Disp) (p q : Loc), k ≤ l →
    p = s.opB b1 d1 → q = s.opB b2 d2 →
    ((∀ i < k, s.byteAllowed .read p i = true ∧ s.byteAllowed .read q i = true ∧ s.byteAt p i = s.byteAt q i) →
      (k = l → exec (.clc l b1 d1 b2 d2) s = .next { s with cc := 0, pc := s.nextAddr 6 }) ∧
      (k < l → s.byteAllowed .read p k = true → s.byteAllowed .read q k = true →
        ((s.byteAt p k).toNat < (s.byteAt q k).toNat →
          exec (.clc l b1 d1 b2 d2) s = .next { s with cc := 1, pc := s.nextAddr 6 }) ∧
        ((s.byteAt q k).toNat < (s.byteAt p k).toNat →
          exec (.clc l b1 d1 b2 d2) s = .next { s with cc := 2, pc := s.nextAddr 6 })) ∧
      (k < l → s.byteAllowed .read p k = false ∨ s.byteAllowed .read q k = false →
        exec (.clc l b1 d1 b2 d2) s = s.interrupt .addressTranslation)) ∧
    ((∀ i < k, s.byteAllowed .read p i = true ∧ s.byteAllowed .read q (s.byteAt p i).toNat = true ∧
        s.byteAt q (s.byteAt p i).toNat = 0) →
      (k = l → exec (.trt l b1 d1 b2 d2) s = .next { s with cc := 0, pc := s.nextAddr 6 }) ∧
      (k < l → s.byteAllowed .read p k = true → s.byteAllowed .read q (s.byteAt p k).toNat = true →
        s.byteAt q (s.byteAt p k).toNat ≠ 0 →
        exec (.trt l b1 d1 b2 d2) s = .next
          { (s.setGr 1 (BitVec.ofNat 32 (p.at k + if s.amode then 0 else (s.getGr 1).toNat / 2 ^ 24 * 2 ^ 24))).setGr 2
              ((s.getGr 2).extractLsb' 8 24 ++ s.byteAt q (s.byteAt p k).toNat) with
            cc := if k + 1 = l then 2 else 1, pc := s.nextAddr 6 }) ∧
      (k < l → s.byteAllowed .read p k = false ∨ s.byteAllowed .read q (s.byteAt p k).toNat = false →
        exec (.trt l b1 d1 b2 d2) s = s.interrupt .addressTranslation))

/-- TR: each byte becomes the table byte it selects, which is an earlier result where it is one of the bytes already stored. -/
def Obligations.TranslateLooksUpEveryByte : Prop :=
  ∀ (s : State) (l : Nat) (b1 : Reg) (d1 : Disp) (b2 : Reg) (d2 : Disp) (p q : Loc), 1 ≤ l → l ≤ 256 →
    p = s.opB b1 d1 → q = s.opB b2 d2 → s.allows .update p l = true →
    (∀ i < l, s.byteAllowed .read q (s.byteAt p i).toNat = true) →
    ∃ t, exec (.tr l b1 d1 b2 d2) s = .next t ∧
      (∀ i < l, ((∀ j < i, p.key j ≠ q.key (s.byteAt p i).toNat) → t.byteAt p i = s.byteAt q (s.byteAt p i).toNat) ∧
        (∀ j < i, p.key j = q.key (s.byteAt p i).toNat → t.byteAt p i = t.byteAt p j)) ∧
      s.SameOutside t p l ∧ { t with mem := s.mem } = s.advance 6

/-- MVO, PACK and UNPK. Byte k from the right of operand 1 is made of bytes of operand 2 as they are when it is stored: y m is byte m
from the right of operand 2, 0 past its left end, and it is read before byte c.2.2.1 m from the right of operand 1 is stored, after the
ones to its right; so it is an earlier result where it is one of those. Where the operands share no byte, the half-bytes of the
result. -/
def Obligations.MoveOffsetPackAndUnpack : Prop :=
  ∀ (s : State) (l1 l2 : Nat) (b1 : Reg) (d1 : Disp) (b2 : Reg) (d2 : Disp) (p q : Loc),
    1 ≤ l1 → l1 ≤ 16 → 1 ≤ l2 → l2 ≤ 16 → p = s.opB b1 d1 → q = s.opB b2 d2 → s.allows .read q l2 = true →
    (∀ c ∈ [(Instr.mvo l1 l2 b1 d1 b2 d2, Access.update, fun (m : Nat) => m, fun (y : Nat → Byte) (k : Nat) =>
          if k = 0 then nibbles (loNibble (y 0)) (loNibble (s.byteAt p (l1 - 1)))
          else nibbles (loNibble (y k)) (hiNibble (y (k - 1)))),
        (.pack l1 l2 b1 d1 b2 d2, .write, fun m => (m + 1) / 2, fun y k =>
          if k = 0 then nibbles (loNibble (y 0)) (hiNibble (y 0))
          else nibbles (loNibble (y (2 * k))) (loNibble (y (2 * k - 1)))),
        (.unpk l1 l2 b1 d1 b2 d2, .write, fun m => 2 * m - 1, fun y k =>
          if k = 0 then nibbles (loNibble (y 0)) (hiNibble (y 0))
          else nibbles 15 (if k % 2 = 1 then loNibble (y ((k + 1) / 2)) else hiNibble (y (k / 2))))],
      s.allows c.2.1 p l1 = true →
      ∃ t y, exec c.1 s = .next t ∧ (∀ k < l1, t.byteAt p (l1 - 1 - k) = c.2.2.2 y k) ∧ (∀ m, l2 ≤ m → y m = 0) ∧
        (∀ m < l2, c.2.2.1 m < l1 →
          ((∀ k < c.2.2.1 m, p.key (l1 - 1 - k) ≠ q.key (l2 - 1 - m)) → y m = s.byteAt q (l2 - 1 - m)) ∧
          (∀ k < c.2.2.1 m, p.key (l1 - 1 - k) = q.key (l2 - 1 - m) → y m = t.byteAt p (l1 - 1 - k))) ∧
        s.SameOutside t p l1 ∧ { t with mem := s.mem } = s.advance 6) ∧
    ((∀ i < l1, ∀ j < l2, p.key i ≠ q.key j) →
      (s.allows .update p l1 = true → ∃ t, exec (.mvo l1 l2 b1 d1 b2 d2) s = .next t ∧
        t.value p l1 = (s.value q l2 * 16 + s.value p l1 % 16) % 256 ^ l1) ∧
      (s.allows .write p l1 = true → ∃ t, exec (.pack l1 l2 b1 d1 b2 d2) s = .next t ∧
        t.value p l1 % 16 = s.value q l2 % 256 / 16 ∧
        (∀ k, 1 ≤ k → k < 2 * l1 → t.value p l1 / 16 ^ k % 16 = s.value q l2 / 256 ^ (k - 1) % 16)) ∧
      (s.allows .write p l1 = true → ∃ t, exec (.unpk l1 l2 b1 d1 b2 d2) s = .next t ∧
        t.value p l1 % 256 = s.value q l2 % 16 * 16 + s.value q l2 / 16 % 16 ∧
        (∀ k, 1 ≤ k → k < l1 → t.value p l1 / 256 ^ k % 256 = 0xF0 + s.value q l2 / 16 ^ (k + 1) % 16)))

/-- MVCL: destructive overlap moves nothing and gives CC 3; else operand 1 takes operand 2 and then the pad byte, and the register
pairs advance by what was moved. The model's choices: one step (log 20), the access registers R1 and R2 in AR mode (log 21), and the
sending pair for a shorter operand 1 and the overlap test by plain sums (D18, log 36). -/
def Obligations.MoveLong : Prop :=
  ∀ (s : State) (r1 r2 : Reg) (n1 n2 m : Nat) (p q : Loc), r1.getLsbD 0 = false → r2.getLsbD 0 = false →
    p = s.opR r1 → q = s.opR r2 → n1 = (s.getGr (r1 + 1)).toNat % 2 ^ 24 → n2 = (s.getGr (r2 + 1)).toNat % 2 ^ 24 →
    m = min n1 n2 →
    (q.addr.toNat < p.addr.toNat → p.addr.toNat < q.addr.toNat + m →
      exec (.mvcl r1 r2) s = .next { s with cc := 3, pc := s.nextAddr 2 }) ∧
    (p.addr.toNat ≤ q.addr.toNat ∨ q.addr.toNat + m ≤ p.addr.toNat →
      s.allows .write p n1 = true → s.allows .read q m = true → (∀ i < m, ∀ j < i, p.key j ≠ q.key i) →
      ∃ t, exec (.mvcl r1 r2) s = .next t ∧
        (∀ i < n1, t.byteAt p i = if i < n2 then s.byteAt q i else (s.getGr (r2 + 1)).extractLsb' 24 8) ∧
        t.cc = (if n1 = n2 then 0 else if n1 < n2 then 1 else 2) ∧
        (t.getGr r1).toNat = p.at n1 ∧ (t.getGr (r1 + 1)).toNat = (s.getGr (r1 + 1)).toNat - n1 ∧
        (t.getGr r2).toNat = q.at m ∧ (t.getGr (r2 + 1)).toNat = (s.getGr (r2 + 1)).toNat - m ∧
        (∀ r, r ≠ r1 → r ≠ r1 + 1 → r ≠ r2 → r ≠ r2 + 1 → t.getGr r = s.getGr r) ∧
        s.SameOutside t p n1 ∧ { t with mem := s.mem, gr := s.gr, cc := s.cc } = s.advance 2)

/-- CLCL: the comparison ends at the first unequal pair, the shorter operand continued with pad bytes, and the register pairs
advance by the equal bytes. The model's choices: one step (log 20), and the access registers R1 and R2 in AR mode (log 21). -/
def Obligations.CompareLong : Prop :=
  ∀ (s : State) (r1 r2 : Reg) (n1 n2 k : Nat) (p q : Loc) (x y : Nat → Byte), r1.getLsbD 0 = false → r2.getLsbD 0 = false →
    p = s.opR r1 → q = s.opR r2 → n1 = (s.getGr (r1 + 1)).toNat % 2 ^ 24 → n2 = (s.getGr (r2 + 1)).toNat % 2 ^ 24 →
    x = (fun i => if i < n1 then s.byteAt p i else (s.getGr (r2 + 1)).extractLsb' 24 8) →
    y = (fun i => if i < n2 then s.byteAt q i else (s.getGr (r2 + 1)).extractLsb' 24 8) →
    k ≤ max n1 n2 → s.allows .read p (min (k + 1) n1) = true → s.allows .read q (min (k + 1) n2) = true →
    (∀ i < k, x i = y i) → (k < max n1 n2 → x k ≠ y k) →
    ∃ t, exec (.clcl r1 r2) s = .next t ∧
      t.cc = (if k = max n1 n2 then 0 else if (x k).toNat < (y k).toNat then 1 else 2) ∧
      (t.getGr r1).toNat = p.at (min k n1) ∧ (t.getGr (r1 + 1)).toNat = (s.getGr (r1 + 1)).toNat - min k n1 ∧
      (t.getGr r2).toNat = q.at (min k n2) ∧ (t.getGr (r2 + 1)).toNat = (s.getGr (r2 + 1)).toNat - min k n2 ∧
      (∀ r, r ≠ r1 → r ≠ r1 + 1 → r ≠ r2 → r ≠ r2 + 1 → t.getGr r = s.getGr r) ∧
      { t with gr := s.gr, cc := s.cc } = s.advance 2

/-! ## Decimal -/

/-- AP, SP and ZAP: a correct packed result with the sign C or D; the low digits and CC 3 where it does not fit. -/
def Obligations.DecimalSums : Prop :=
  ∀ (s : State) (l1 l2 : Nat) (b1 : Reg) (d1 : Disp) (b2 : Reg) (d2 : Disp) (p q : Loc) (x y : Int),
    1 ≤ l1 → l1 ≤ 16 → 1 ≤ l2 → l2 ≤ 16 → p = s.opB b1 d1 → q = s.opB b2 d2 →
    x = decVal l1 (s.value p l1) → y = decVal l2 (s.value q l2) →
    s.allows .read q l2 = true → decValid l2 (s.value q l2) = true →
    ∀ c ∈ [(Instr.ap l1 l2 b1 d1 b2 d2, s.allows .update p l1 && !badOverlap p l1 q l2 && decValid l1 (s.value p l1), x + y),
        (.sp l1 l2 b1 d1 b2 d2, s.allows .update p l1 && !badOverlap p l1 q l2 && decValid l1 (s.value p l1), x - y),
        (.zap l1 l2 b1 d1 b2 d2, s.allows .write p l1 && !zapOpen p l1 q l2, y)],
      c.2.1 = true →
      ∃ t : State, decValid l1 (t.value p l1) = true ∧ decMag l1 (t.value p l1) = c.2.2.natAbs % 10 ^ (2 * l1 - 1) ∧
        t.value p l1 % 16 = (if c.2.2 < 0 then 0xD else 0xC) ∧
        s.SameOutside t p l1 ∧ { t with mem := s.mem, cc := s.cc } = s.advance 6 ∧
        (c.2.2.natAbs < 10 ^ (2 * l1 - 1) → exec c.1 s = .next t ∧ decVal l1 (t.value p l1) = c.2.2 ∧
          t.cc = if c.2.2 = 0 then 0 else if c.2.2 < 0 then 1 else 2) ∧
        (10 ^ (2 * l1 - 1) ≤ c.2.2.natAbs → t.cc = 3 ∧
          exec c.1 s = if s.pm.getMsbD 1 then t.interrupt .decimalOverflow else .next t)

/-- ZAP where the operands share a byte and operand 1 ends to the right of operand 2: U7 leaves the result open. Some bytes stand in
operand 1 and some CC is set (log 22); the overflow, which is not open, is still raised, and nothing else changes. -/
def Obligations.ZapWithAnOpenOverlapCompletes : Prop :=
  ∀ (s : State) (l1 l2 : Nat) (b1 : Reg) (d1 : Disp) (b2 : Reg) (d2 : Disp) (p q : Loc),
    p = s.opB b1 d1 → q = s.opB b2 d2 → s.allows .write p l1 = true → s.allows .read q l2 = true →
    decValid l2 (s.value q l2) = true → zapOpen p l1 q l2 = true →
    ∃ t : State, s.SameOutside t p l1 ∧ { t with mem := s.mem, cc := s.cc, free := s.free } = s.advance 6 ∧
      (decMag l2 (s.value q l2) < 10 ^ (2 * l1 - 1) ∨ s.pm.getMsbD 1 = false →
        exec (.zap l1 l2 b1 d1 b2 d2) s = .next t) ∧
      (10 ^ (2 * l1 - 1) ≤ decMag l2 (s.value q l2) → s.pm.getMsbD 1 = true →
        exec (.zap l1 l2 b1 d1 b2 d2) s = t.interrupt .decimalOverflow)

/-- CP compares by value: signs of equal meaning, lengths and the sign of a zero make no difference, and only CC changes. An
invalid digit or sign, or an overlap with different rightmost bytes, interrupts AP, SP, CP, MP, DP; ZAP reads only operand 2, and
SRP rejects a rounding digit above 9 too. That nothing is written then, and that DP takes it before the divisor is looked at, are the
model's choices after D15 (log 29) and D11 (log 28). -/
def Obligations.CompareDecimalAndDataErrors : Prop :=
  ∀ (s : State) (l1 l2 : Nat) (b1 : Reg) (d1 : Disp) (b2 : Reg) (d2 : Disp) (i3 : Nibble) (p q : Loc) (x y : Int),
    p = s.opB b1 d1 → q = s.opB b2 d2 → x = decVal l1 (s.value p l1) → y = decVal l2 (s.value q l2) →
    (s.allows .read p l1 = true → s.allows .read q l2 = true → badOverlap p l1 q l2 = false →
      decValid l1 (s.value p l1) = true → decValid l2 (s.value q l2) = true →
      exec (.cp l1 l2 b1 d1 b2 d2) s =
        .next { s with cc := if x = y then 0 else if x < y then 1 else 2, pc := s.nextAddr 6 }) ∧
    (badOverlap p l1 q l2 = true ∨ decValid l1 (s.value p l1) = false ∨ decValid l2 (s.value q l2) = false →
      s.allows .read q l2 = true →
      (s.allows .read p l1 = true → exec (.cp l1 l2 b1 d1 b2 d2) s = s.interrupt .data) ∧
      (s.allows .update p l1 = true → exec (.ap l1 l2 b1 d1 b2 d2) s = s.interrupt .data ∧
        exec (.sp l1 l2 b1 d1 b2 d2) s = s.interrupt .data ∧
        (l2 ≤ 8 → l2 < l1 → exec (.mp l1 l2 b1 d1 b2 d2) s = s.interrupt .data ∧
          exec (.dp l1 l2 b1 d1 b2 d2) s = s.interrupt .data))) ∧
    (s.allows .write p l1 = true → s.allows .read q l2 = true → decValid l2 (s.value q l2) = false →
      exec (.zap l1 l2 b1 d1 b2 d2) s = s.interrupt .data) ∧
    (s.allows .update p l1 = true → decValid l1 (s.value p l1) = false ∨ 9 < i3.toNat →
      exec (.srp l1 b1 d1 b2 d2 i3) s = s.interrupt .data)

/-- MP and DP: the exact product; quotient and remainder, left and right; the signs by the algebraic rules, also of a zero. That the
data interruption of MP writes nothing is the model's choice after D15 (log 29). -/
def Obligations.DecimalProductAndQuotient : Prop :=
  ∀ (s : State) (l1 l2 : Nat) (b1 : Reg) (d1 : Disp) (b2 : Reg) (d2 : Disp) (p q : Loc) (x y : Nat),
    1 ≤ l2 → l2 ≤ 8 → l2 < l1 → l1 ≤ 16 → p = s.opB b1 d1 → q = s.opB b2 d2 →
    x = s.value p l1 → y = s.value q l2 → s.allows .update p l1 = true → s.allows .read q l2 = true →
    badOverlap p l1 q l2 = false → decValid l1 x = true → decValid l2 y = true →
    (x / 256 ^ (l1 - l2) = 0 → ∃ t, exec (.mp l1 l2 b1 d1 b2 d2) s = .next t ∧ decValid l1 (t.value p l1) = true ∧
      decMag l1 (t.value p l1) = decMag l1 x * decMag l2 y ∧
      t.value p l1 % 16 = (if decNeg x = decNeg y then 0xC else 0xD) ∧
      s.SameOutside t p l1 ∧ { t with mem := s.mem } = s.advance 6) ∧
    (x / 256 ^ (l1 - l2) ≠ 0 → exec (.mp l1 l2 b1 d1 b2 d2) s = s.interrupt .data) ∧
    (decMag l2 y ≠ 0 → decMag l1 x / decMag l2 y < 10 ^ (2 * (l1 - l2) - 1) →
      ∃ t, exec (.dp l1 l2 b1 d1 b2 d2) s = .next t ∧
        decValid (l1 - l2) (t.value p (l1 - l2)) = true ∧ decValid l2 (t.value (p.plus (l1 - l2)) l2) = true ∧
        decMag (l1 - l2) (t.value p (l1 - l2)) = decMag l1 x / decMag l2 y ∧
        decMag l2 (t.value (p.plus (l1 - l2)) l2) = decMag l1 x % decMag l2 y ∧
        t.value p (l1 - l2) % 16 = (if decNeg x = decNeg y then 0xC else 0xD) ∧
        t.value (p.plus (l1 - l2)) l2 % 16 = (if decNeg x then 0xD else 0xC) ∧
        s.SameOutside t p l1 ∧ { t with mem := s.mem } = s.advance 6) ∧
    (decMag l2 y = 0 ∨ 10 ^ (2 * (l1 - l2) - 1) ≤ decMag l1 x / decMag l2 y →
      exec (.dp l1 l2 b1 d1 b2 d2) s = s.interrupt .divide)

/-- SRP: left by up to 31 digits with overflow, or right by 1 to 32 digits with rounding of the magnitude; the sign code stays. -/
def Obligations.ShiftAndRoundDecimal : Prop :=
  ∀ (s : State) (l1 : Nat) (b1 : Reg) (d1 : Disp) (b2 : Reg) (d2 : Disp) (i3 : Nibble) (p : Loc) (b x v w : Nat),
    1 ≤ l1 → l1 ≤ 16 → p = s.opB b1 d1 → b = (s.addrx 0 b2 d2).toNat % 64 → x = s.value p l1 →
    s.allows .update p l1 = true → decValid l1 x = true → i3.toNat ≤ 9 → v = decMag l1 x →
    w = (if b < 32 then v * 10 ^ b else (v + i3.toNat * 10 ^ (63 - b)) / 10 ^ (64 - b)) →
    ∃ t : State, decValid l1 (t.value p l1) = true ∧ decMag l1 (t.value p l1) = w % 10 ^ (2 * l1 - 1) ∧
      t.value p l1 % 16 = x % 16 ∧ s.SameOutside t p l1 ∧ { t with mem := s.mem, cc := s.cc } = s.advance 6 ∧
      (w < 10 ^ (2 * l1 - 1) → exec (.srp l1 b1 d1 b2 d2 i3) s = .next t ∧
        t.cc = if w = 0 then 0 else if decNeg x then 1 else 2) ∧
      (10 ^ (2 * l1 - 1) ≤ w → b < 32 ∧ t.cc = 3 ∧
        exec (.srp l1 b1 d1 b2 d2 i3) s = if s.pm.getMsbD 1 then t.interrupt .decimalOverflow else .next t)

/-- ED and EDMK with a fill character and then only digit selectors, over one packed number: leading zeros become the fill
character, the digits from the first that is not zero get the zone F, CC tells the sign, and EDMK marks that digit. -/
def Obligations.EditOneNumber : Prop :=
  ∀ (s : State) (n : Nat) (b1 : Reg) (d1 : Disp) (b2 : Reg) (d2 : Disp) (p q : Loc) (x : Nat),
    1 ≤ n → n ≤ 16 → p = s.opB b1 d1 → q = s.opB b2 d2 → x = s.value q n → decValid n x = true →
    s.allows .update p (2 * n) = true → s.allows .read q n = true → (∀ i < 2 * n, ∀ j < n, p.key i ≠ q.key j) →
    (∀ i, 1 ≤ i → i < 2 * n → s.byteAt p i = 0x20) → s.byteAt p 0 ∉ [0x20, 0x21, 0x22] →
    ∃ t u, exec (.ed (2 * n) b1 d1 b2 d2) s = .next t ∧ exec (.edmk (2 * n) b1 d1 b2 d2) s = .next u ∧
      t.byteAt p 0 = s.byteAt p 0 ∧
      (∀ i, 1 ≤ i → i < 2 * n → t.byteAt p i =
        if x / 16 ^ (2 * n - i) = 0 then s.byteAt p 0 else BitVec.ofNat 8 (0xF0 + x / 16 ^ (2 * n - i) % 16)) ∧
      t.cc = (if decMag n x = 0 then 0 else if decNeg x then 1 else 2) ∧
      s.SameOutside t p (2 * n) ∧ { t with mem := s.mem, cc := s.cc } = s.advance 6 ∧
      { u with gr := s.gr } = t ∧ (∀ r, r ≠ 1 → u.getGr r = s.getGr r) ∧
      (decMag n x = 0 → u.getGr 1 = s.getGr 1) ∧
      (∀ i, 1 ≤ i → i < 2 * n → x / 16 ^ (2 * n - i) ≠ 0 → x / 16 ^ (2 * n - i) < 16 →
        (u.getGr 1).toNat =
          (s.getGr 1).toNat / (if s.amode then 2 ^ 31 else 2 ^ 24) * (if s.amode then 2 ^ 31 else 2 ^ 24) + p.at i)

/-- ED and EDMK with any pattern, R338 and R339. Over the source digits: before pattern byte i, j i half-bytes of operand 2 are used
up, S is sig i, and nz i tells whether the field has had a digit other than 0. A digit selector (X'20') or significance starter (X'21')
takes the next digit g i: a left half-byte, which must be a digit and whose right neighbour is passed over where it is a sign, or the
right half-byte that is left; plus i tells that a plus sign follows. The rows of the table give the result bytes, S, CC, and for EDMK
the address in GR1; a left half-byte that is no digit, and a source byte that cannot be read, suppress (log 29). By the model's own
edit of the pattern: the same, and where a source byte lies in the pattern the result is open (U8): the instruction completes, and
nothing but the pattern, CC and GR1 changes (log 23). -/
def Obligations.EditOfAnyPattern : Prop :=
  ∀ (s : State) (l : Nat) (b1 : Reg) (d1 : Disp) (b2 : Reg) (d2 : Disp) (p q : Loc) (a : Nat → Nat), 1 ≤ l → l ≤ 256 →
    p = s.opB b1 d1 → q = s.opB b2 d2 → s.allows .update p l = true →
    a = (fun i => (s.getGr 1).toNat / (if s.amode then 2 ^ 31 else 2 ^ 24) * (if s.amode then 2 ^ 31 else 2 ^ 24) + p.at i) →
    (∀ (n : Nat) (j : Nat → Nat) (sig nz plus : Nat → Bool) (g : Nat → Nibble) (m b : Nat → Byte), n ≤ l →
      m = s.byteAt p → b = (fun i => s.byteAt q (j i / 2)) →
      g = (fun i => if j i % 2 = 0 then hiNibble (b i) else loNibble (b i)) →
      plus = (fun i => j i % 2 == 0 && [(10 : Nibble), 12, 14, 15].contains (loNibble (b i))) →
      j 0 = 0 → sig 0 = false → nz 0 = false →
      (∀ i < n,
        (m i = 0x20 ∨ m i = 0x21 →
          (j i % 2 = 0 → s.byteAllowed .read q (j i / 2) = true ∧ (g i).toNat ≤ 9) ∧
          j (i + 1) = j i + (if j i % 2 = 0 ∧ 10 ≤ (loNibble (b i)).toNat then 2 else 1) ∧
          sig (i + 1) = (!plus i && (sig i || g i != 0 || m i == 0x21)) ∧ nz (i + 1) = (nz i || g i != 0)) ∧
        (m i = 0x22 → j (i + 1) = j i ∧ sig (i + 1) = false ∧ nz (i + 1) = false) ∧
        (m i ∉ [0x20, 0x21, 0x22] → j (i + 1) = j i ∧ sig (i + 1) = sig i ∧ nz (i + 1) = nz i)) →
      (n < l → m n = 0x20 ∨ m n = 0x21 → j n % 2 = 0 →
        (s.byteAllowed .read q (j n / 2) = false →
          exec (.ed l b1 d1 b2 d2) s = s.interrupt .addressTranslation ∧
          exec (.edmk l b1 d1 b2 d2) s = s.interrupt .addressTranslation) ∧
        (s.byteAllowed .read q (j n / 2) = true → 9 < (g n).toNat →
          exec (.ed l b1 d1 b2 d2) s = s.interrupt .data ∧ exec (.edmk l b1 d1 b2 d2) s = s.interrupt .data)) ∧
      (n = l → (∀ i < l, ∀ k < (j l + 1) / 2, p.key i ≠ q.key k) →
        ∃ t u, exec (.ed l b1 d1 b2 d2) s = .next t ∧ exec (.edmk l b1 d1 b2 d2) s = .next u ∧
          (∀ i < l, t.byteAt p i =
            if m i = 0x20 ∨ m i = 0x21 then (if sig i = false ∧ g i = 0 then m 0 else nibbles 15 (g i))
            else if m i = 0x22 ∨ sig i = false then m 0 else m i) ∧
          t.cc = (if nz l = false then 0 else if sig l then 1 else 2) ∧
          s.SameOutside t p l ∧ { t with mem := s.mem, cc := s.cc } = s.advance 6 ∧
          { u with gr := s.gr } = t ∧ (∀ r, r ≠ 1 → u.getGr r = s.getGr r) ∧
          (∀ i < l, (m i = 0x20 ∨ m i = 0x21) ∧ sig i = false ∧ g i ≠ 0 →
            (∀ k, i < k → k < l → ¬ ((m k = 0x20 ∨ m k = 0x21) ∧ sig k = false ∧ g k ≠ 0)) → (u.getGr 1).toNat = a i) ∧
          ((∀ k < l, ¬ ((m k = 0x20 ∨ m k = 0x21) ∧ sig k = false ∧ g k ≠ 0)) → u.getGr 1 = s.getGr 1))) ∧
    (∀ k, s.edit p q l = .error k →
      exec (.ed l b1 d1 b2 d2) s = s.interrupt k ∧ exec (.edmk l b1 d1 b2 d2) s = s.interrupt k) ∧
    (∀ e, s.edit p q l = .ok e → ∃ t u, exec (.ed l b1 d1 b2 d2) s = .next t ∧ exec (.edmk l b1 d1 b2 d2) s = .next u ∧
      (overlaps p l q e.k = false → t.value p l = e.out ∧
        t.cc = (if e.nz = false then 0 else if e.sig then 1 else 2) ∧ t.free = s.free ∧ u.mem = t.mem ∧ u.cc = t.cc ∧
        (e.mark = none → u.getGr 1 = s.getGr 1) ∧ (∀ i, e.mark = some i → (u.getGr 1).toNat = a i)) ∧
      s.SameOutside t p l ∧ s.SameOutside u p l ∧ (∀ r, r ≠ 1 → u.getGr r = s.getGr r) ∧
      { t with mem := s.mem, cc := s.cc, free := s.free } = s.advance 6 ∧
      { u with mem := s.mem, cc := s.cc, free := s.free, gr := s.gr } = s.advance 6)

/-- CVB and CVD: between a packed doubleword and a register; a number of more than 32 bits leaves its low 32 bits and interrupts
afterwards. The model's choices: an incorrect number leaves the register of CVB (log 29), and CVD gives zero a plus sign (log 35). -/
def Obligations.ConvertBinaryAndDecimal : Prop :=
  ∀ (s : State) (r1 x b : Reg) (d : Disp) (v : Nat) (p : Loc), p = s.opX x b d →
    (s.readAligned p 8 = .ok v → decValid 8 v = false → exec (.cvb r1 x b d) s = s.interrupt .data) ∧
    (s.readAligned p 8 = .ok v → decValid 8 v = true → -2 ^ 31 ≤ decVal 8 v → decVal 8 v ≤ 2 ^ 31 - 1 →
      exec (.cvb r1 x b d) s = .next { s.setGr r1 (BitVec.ofInt 32 (decVal 8 v)) with pc := s.nextAddr 4 }) ∧
    (s.readAligned p 8 = .ok v → decValid 8 v = true → decVal 8 v < -2 ^ 31 ∨ 2 ^ 31 - 1 < decVal 8 v →
      exec (.cvb r1 x b d) s =
        ({ s.setGr r1 (BitVec.ofInt 32 (decVal 8 v)) with pc := s.nextAddr 4 } : State).interrupt .divide) ∧
    (s.misaligned p 8 = false → s.allows .write p 8 = true →
      ∃ t, exec (.cvd r1 x b d) s = .next t ∧ decValid 8 (t.value p 8) = true ∧
        decVal 8 (t.value p 8) = (s.getGr r1).toInt ∧
        t.value p 8 % 16 = (if (s.getGr r1).toInt < 0 then 0xD else 0xC) ∧
        s.SameOutside t p 8 ∧ { t with mem := s.mem } = s.advance 4)

/-! ## Floating point -/

/-- The add and subtract instructions: the registers take what AddSub delivers, CC is by that number (0 for a true zero and for mantissa
0, 1 for the sign 1, else 2), and an exponent or significance interruption follows the completed instruction. First the layouts of R501
and R502: sign in bit 0, characteristic modulo 128 in bits 1 to 7, then the mantissa; an extended number in two parts, the lower one with
the same sign and the characteristic 14 less, and read without them; a true zero as zeros; a short number in the left half of its
register (R14), an extended one in two registers (R506). The model's choices after D16 (log 34): the lower part after an exponent or
significance interruption, and CC 0 after a masked underflow. -/
def Obligations.FloatingAddAndSubtract : Prop :=
  (∀ (w : Word) (z : Dword) (q : Qword),
    unpackS w = { neg := w.msb, chr := w.toNat / 2 ^ 24 % 2 ^ 7, man := w.toNat % 2 ^ 24 } ∧
    unpackL z = { neg := z.msb, chr := z.toNat / 2 ^ 56 % 2 ^ 7, man := z.toNat % 2 ^ 56 } ∧
    unpackX q = { neg := q.msb, chr := q.toNat / 2 ^ 120 % 2 ^ 7,
                  man := q.toNat / 2 ^ 64 % 2 ^ 56 * 2 ^ 56 + q.toNat % 2 ^ 56 }) ∧
  (packS none = 0 ∧ packL none = 0 ∧ packX none = 0) ∧
  (∀ r : FNum,
    (packS (some r)).toNat = r.neg.toNat * 2 ^ 31 + (r.chr % 2 ^ 7).toNat * 2 ^ 24 + r.man % 2 ^ 24 ∧
    (packL (some r)).toNat = r.neg.toNat * 2 ^ 63 + (r.chr % 2 ^ 7).toNat * 2 ^ 56 + r.man % 2 ^ 56 ∧
    (packX (some r)).toNat =
      (r.neg.toNat * 2 ^ 63 + (r.chr % 2 ^ 7).toNat * 2 ^ 56 + r.man / 2 ^ 56 % 2 ^ 56) * 2 ^ 64 +
        (r.neg.toNat * 2 ^ 63 + ((r.chr - 14) % 2 ^ 7).toNat * 2 ^ 56 + r.man % 2 ^ 56)) ∧
  (∀ (s : State) (r : Reg) (w : Word) (q : Qword),
    s.getShort r = (s.getFpr r).extractLsb' 32 32 ∧ s.getExt r = s.getFpr r ++ s.getFpr (r + 2) ∧
    s.setShort r w = s.setFpr r (w ++ (s.getFpr r).extractLsb' 0 32) ∧
    s.setExt r q = (s.setFpr r (q.extractLsb' 64 64)).setFpr (r + 2) (q.extractLsb' 0 64)) ∧
  ∀ (s : State) (r1 r2 x b : Reg) (d : Disp) (y : Word) (z : Dword) (cc : Option FNum → BitVec 2),
    (∀ v, cc v = match v with
      | none => 0
      | some r => if r.man = 0 then 0 else if r.neg then 1 else 2) →
    ∀ c ∈ [(false, true, Instr.aer r1 r2, Instr.ae r1 x b d, Instr.adr r1 r2, Instr.ad r1 x b d),
        (true, true, .ser r1 r2, .se r1 x b d, .sdr r1 r2, .sd r1 x b d),
        (false, false, .aur r1 r2, .au r1 x b d, .awr r1 r2, .aw r1 x b d),
        (true, false, .sur r1 r2, .su r1 x b d, .swr r1 r2, .sw r1 x b d)],
    ∀ e ∈ [(c.2.2.1, 2, r2.toNat ∈ [0, 2, 4, 6] ∧ y = s.getShort r2,
          addSub 6 c.1 c.2.1 (s.pm.getMsbD 2) (s.pm.getMsbD 3) (unpackS (s.getShort r1)) (unpackS y),
          fun v => s.setShort r1 (packS v)),
        (c.2.2.2.1, 4, s.readW (s.opX x b d) = .ok y,
          addSub 6 c.1 c.2.1 (s.pm.getMsbD 2) (s.pm.getMsbD 3) (unpackS (s.getShort r1)) (unpackS y),
          fun v => s.setShort r1 (packS v)),
        (c.2.2.2.2.1, 2, r2.toNat ∈ [0, 2, 4, 6] ∧ z = s.getFpr r2,
          addSub 14 c.1 c.2.1 (s.pm.getMsbD 2) (s.pm.getMsbD 3) (unpackL (s.getFpr r1)) (unpackL z),
          fun v => s.setFpr r1 (packL v)),
        (c.2.2.2.2.2, 4, s.readD (s.opX x b d) = .ok z,
          addSub 14 c.1 c.2.1 (s.pm.getMsbD 2) (s.pm.getMsbD 3) (unpackL (s.getFpr r1)) (unpackL z),
          fun v => s.setFpr r1 (packL v)),
        (if c.1 then Instr.sxr r1 r2 else .axr r1 r2, 2, r1.toNat ∈ [0, 4] ∧ r2.toNat ∈ [0, 4],
          addSub 28 c.1 true (s.pm.getMsbD 2) (s.pm.getMsbD 3) (unpackX (s.getExt r1)) (unpackX (s.getExt r2)),
          fun v => s.setExt r1 (packX v))],
      r1.toNat ∈ [0, 2, 4, 6] → e.2.2.1 →
      (e.2.2.2.1.exc = none → exec e.1 s =
        .next { e.2.2.2.2 e.2.2.2.1.value with cc := cc e.2.2.2.1.value, pc := s.nextAddr e.2.1 }) ∧
      (∀ k, e.2.2.2.1.exc = some k → exec e.1 s =
        ({ e.2.2.2.2 e.2.2.2.1.value with cc := cc e.2.2.2.1.value, pc := s.nextAddr e.2.1 } : State).interrupt k)

/-- CER, CE, CDR and CD, R518: CC is the sign of the difference of the two mantissas, each with a guard digit 0 and the one with the
smaller characteristic shifted right and cut off; nothing else changes. Where the characteristics are equal or both numbers are
normalized, CC orders the values; else a smaller number never gives CC 2, a greater never CC 1, and equal numbers give CC 0. -/
def Obligations.FloatingCompareOrdersTheValues : Prop :=
  ∀ (s : State) (r1 r2 x b : Reg) (d : Disp) (y : Word) (z : Dword), r1.toNat ∈ [0, 2, 4, 6] →
    ∀ c ∈ [(Instr.cer r1 r2, 2, r2.toNat ∈ [0, 2, 4, 6], 6, unpackS (s.getShort r1), unpackS (s.getShort r2)),
        (.ce r1 x b d, 4, s.readW (s.opX x b d) = .ok y, 6, unpackS (s.getShort r1), unpackS y),
        (.cdr r1 r2, 2, r2.toNat ∈ [0, 2, 4, 6], 14, unpackL (s.getFpr r1), unpackL (s.getFpr r2)),
        (.cd r1 x b d, 4, s.readD (s.opX x b d) = .ok z, 14, unpackL (s.getFpr r1), unpackL z)],
      c.2.2.1 → ∀ (n : Nat) (u v : FNum) (w : ℤ), n = c.2.2.2.1 → u = c.2.2.2.2.1 → v = c.2.2.2.2.2 →
        w = (if u.neg then -1 else 1) * ((u.man * 16 / 16 ^ (v.chr - u.chr).toNat : Nat) : ℤ) -
          (if v.neg then -1 else 1) * ((v.man * 16 / 16 ^ (u.chr - v.chr).toNat : Nat) : ℤ) →
        exec c.1 s = .next { s with cc := if w = 0 then 0 else if w < 0 then 1 else 2, pc := s.nextAddr c.2.1 } ∧
        (u.chr = v.chr ∨ 16 ^ (n - 1) ≤ u.man ∧ 16 ^ (n - 1) ≤ v.man →
          (w = 0 ↔ u.value n = v.value n) ∧ (w < 0 ↔ u.value n < v.value n)) ∧
        (u.value n = v.value n → w = 0) ∧ (u.value n < v.value n → w ≤ 0) ∧ (v.value n < u.value n → 0 ≤ w)

/-- The multiply, divide, halve and round instructions: the registers take what Mul, Div, Halve and Round deliver, in the layouts that
FloatingAddAndSubtract writes out, CC stays, an exponent interruption follows the completed instruction, and a divisor without mantissa
interrupts. The model's choices: nothing is changed by such a divisor (D15, log 29), and the lower part of an extended result after an
exponent interruption (D16, log 34). -/
def Obligations.FloatingProductsQuotientsAndRounding : Prop :=
  ∀ (s : State) (r1 r2 x b : Reg) (d : Disp) (y : Word) (z : Dword) (mu : Bool) (u : FNum) (v : FNum) (w : FNum),
    mu = s.pm.getMsbD 2 → u = unpackS (s.getShort r1) → v = unpackL (s.getFpr r1) → w = unpackX (s.getExt r1) →
    (∀ c ∈ [(Instr.mer r1 r2, 2, r2.toNat ∈ [0, 2, 4, 6], multiply 6 14 mu u (unpackS (s.getShort r2)),
          fun o => s.setFpr r1 (packL o)),
        (.me r1 x b d, 4, s.readW (s.opX x b d) = .ok y, multiply 6 14 mu u (unpackS y), fun o => s.setFpr r1 (packL o)),
        (.mdr r1 r2, 2, r2.toNat ∈ [0, 2, 4, 6], multiply 14 14 mu v (unpackL (s.getFpr r2)), fun o => s.setFpr r1 (packL o)),
        (.md r1 x b d, 4, s.readD (s.opX x b d) = .ok z, multiply 14 14 mu v (unpackL z), fun o => s.setFpr r1 (packL o)),
        (.mxdr r1 r2, 2, r1.toNat ∈ [0, 4] ∧ r2.toNat ∈ [0, 2, 4, 6], multiply 14 28 mu v (unpackL (s.getFpr r2)),
          fun o => s.setExt r1 (packX o)),
        (.mxd r1 x b d, 4, r1.toNat ∈ [0, 4] ∧ s.readD (s.opX x b d) = .ok z, multiply 14 28 mu v (unpackL z),
          fun o => s.setExt r1 (packX o)),
        (.mxr r1 r2, 2, r1.toNat ∈ [0, 4] ∧ r2.toNat ∈ [0, 4], multiply 28 28 mu w (unpackX (s.getExt r2)),
          fun o => s.setExt r1 (packX o)),
        (.der r1 r2, 2, r2.toNat ∈ [0, 2, 4, 6] ∧ (unpackS (s.getShort r2)).man ≠ 0, divide 6 mu u (unpackS (s.getShort r2)),
          fun o => s.setShort r1 (packS o)),
        (.de r1 x b d, 4, s.readW (s.opX x b d) = .ok y ∧ (unpackS y).man ≠ 0, divide 6 mu u (unpackS y),
          fun o => s.setShort r1 (packS o)),
        (.ddr r1 r2, 2, r2.toNat ∈ [0, 2, 4, 6] ∧ (unpackL (s.getFpr r2)).man ≠ 0, divide 14 mu v (unpackL (s.getFpr r2)),
          fun o => s.setFpr r1 (packL o)),
        (.dd r1 x b d, 4, s.readD (s.opX x b d) = .ok z ∧ (unpackL z).man ≠ 0, divide 14 mu v (unpackL z),
          fun o => s.setFpr r1 (packL o)),
        (.dxr r1 r2, 4, s.cfg.has31Bit = true ∧ r1.toNat ∈ [0, 4] ∧ r2.toNat ∈ [0, 4] ∧ (unpackX (s.getExt r2)).man ≠ 0,
          divide 28 mu w (unpackX (s.getExt r2)), fun o => s.setExt r1 (packX o)),
        (.her r1 r2, 2, r2.toNat ∈ [0, 2, 4, 6], halve 6 mu (unpackS (s.getShort r2)), fun o => s.setShort r1 (packS o)),
        (.hdr r1 r2, 2, r2.toNat ∈ [0, 2, 4, 6], halve 14 mu (unpackL (s.getFpr r2)), fun o => s.setFpr r1 (packL o)),
        (.lrer r1 r2, 2, r2.toNat ∈ [0, 2, 4, 6], roundTo 14 6 (unpackL (s.getFpr r2)), fun o => s.setShort r1 (packS o)),
        (.lrdr r1 r2, 2, r2.toNat ∈ [0, 4], roundTo 28 14 (unpackX (s.getExt r2)), fun o => s.setFpr r1 (packL o))],
      r1.toNat ∈ [0, 2, 4, 6] → c.2.2.1 →
      (c.2.2.2.1.exc = none → exec c.1 s = .next { c.2.2.2.2 c.2.2.2.1.value with pc := s.nextAddr c.2.1 }) ∧
      (∀ k, c.2.2.2.1.exc = some k →
        exec c.1 s = ({ c.2.2.2.2 c.2.2.2.1.value with pc := s.nextAddr c.2.1 } : State).interrupt k)) ∧
    (∀ c ∈ [(Instr.der r1 r2, r2.toNat ∈ [0, 2, 4, 6] ∧ (unpackS (s.getShort r2)).man = 0),
        (.de r1 x b d, s.readW (s.opX x b d) = .ok y ∧ (unpackS y).man = 0),
        (.ddr r1 r2, r2.toNat ∈ [0, 2, 4, 6] ∧ (unpackL (s.getFpr r2)).man = 0),
        (.dd r1 x b d, s.readD (s.opX x b d) = .ok z ∧ (unpackL z).man = 0),
        (.dxr r1 r2, s.cfg.has31Bit = true ∧ r1.toNat ∈ [0, 4] ∧ r2.toNat ∈ [0, 4] ∧ (unpackX (s.getExt r2)).man = 0)],
      r1.toNat ∈ [0, 2, 4, 6] → c.2 → exec c.1 s = s.interrupt .divide)

/-- The loads: LER, LE, LDR and LD leave CC; LTER, LCER, LPER, LNER and their long forms set or change the sign bit and set CC by
mantissa and sign. No load normalises; a short load leaves the right half of the register. -/
def Obligations.FloatingLoads : Prop :=
  ∀ (s : State) (r1 r2 x b : Reg) (d : Disp) (y : Word) (z : Dword), r1.toNat ∈ [0, 2, 4, 6] →
    (s.readW (s.opX x b d) = .ok y →
      exec (.le r1 x b d) s = .next { s.setFpr r1 (y ++ (s.getFpr r1).extractLsb' 0 32) with pc := s.nextAddr 4 }) ∧
    (s.readD (s.opX x b d) = .ok z → exec (.ld r1 x b d) s = .next { s.setFpr r1 z with pc := s.nextAddr 4 }) ∧
    (r2.toNat ∈ [0, 2, 4, 6] →
      exec (.ler r1 r2) s = .next { s.setFpr r1 ((s.getFpr r2).extractLsb' 32 32 ++ (s.getFpr r1).extractLsb' 0 32) with
        pc := s.nextAddr 2 } ∧
      exec (.ldr r1 r2) s = .next { s.setFpr r1 (s.getFpr r2) with pc := s.nextAddr 2 } ∧
      ∀ c ∈ [(Instr.lter r1 r2, Instr.ltdr r1 r2, (s.getFpr r2).msb), (.lcer r1 r2, .lcdr r1 r2, !(s.getFpr r2).msb),
          (.lper r1 r2, .lpdr r1 r2, false), (.lner r1 r2, .lndr r1 r2, true)],
        exec c.1 s = .next
          { s.setFpr r1 ((BitVec.ofBool c.2.2 ++ (s.getFpr r2).extractLsb' 32 31) ++ (s.getFpr r1).extractLsb' 0 32) with
            cc := if (s.getFpr r2).toNat / 2 ^ 32 % 2 ^ 24 = 0 then 0 else if c.2.2 then 1 else 2, pc := s.nextAddr 2 } ∧
        exec c.2.1 s = .next
          { s.setFpr r1 (BitVec.ofBool c.2.2 ++ (s.getFpr r2).extractLsb' 0 63) with
            cc := if (s.getFpr r2).toNat % 2 ^ 56 = 0 then 0 else if c.2.2 then 1 else 2, pc := s.nextAddr 2 })

/-- What AddSub delivers, R507, in every case. v is the sum or difference of the two mantissas with a guard digit, the one with the
smaller characteristic shifted right and cut off; it is less than one guard digit from the exact result. A v of 0 (without
normalization: of 0 but for the guard digit) is a significance, R504. Else the result is v cut off to n digits (normalized where the
operation normalizes, with the greater characteristic where it does not, one more after a carry), delivered as R503 says. Without an
exception it differs from the exact result by less than one unit of the last digit of the greater characteristic. -/
def Obligations.FloatingSumsAreTruncated : Prop :=
  ∀ (n : Nat) (sub norm mu ms : Bool) (x y : FNum) (c v : ℤ) (o : FOut) (e g : ℚ), n ∈ [6, 14, 28] → x.man < 16 ^ n →
    y.man < 16 ^ n → 0 ≤ x.chr → x.chr ≤ 127 → 0 ≤ y.chr → y.chr ≤ 127 → c = max x.chr y.chr →
    v = (if x.neg then -1 else 1) * ((x.man * 16 / 16 ^ (y.chr - x.chr).toNat : Nat) : ℤ) +
      (if sub then -1 else 1) * ((if y.neg then -1 else 1) * ((y.man * 16 / 16 ^ (x.chr - y.chr).toNat : Nat) : ℤ)) →
    o = addSub n sub norm mu ms x y → e = x.value n + (if sub then -1 else 1) * y.value n → g = v * lastDigit (n + 1) c →
    |g - e| < lastDigit (n + 1) c ∧
    ((if norm then v = 0 else |v| < 16) →
      o = if ms then { value := some { neg := false, chr := c, man := 0 }, exc := some .significance }
        else { value := none, exc := none }) ∧
    ((if norm then v ≠ 0 else 16 ≤ |v|) →
      ∃ r : FNum, o = r.delivered mu ∧ r.neg = decide (v < 0) ∧ r.man < 16 ^ n ∧ (norm = true → 16 ^ (n - 1) ≤ r.man) ∧
        (norm = false → r.chr = if 16 ^ (n + 1) ≤ |v| then c + 1 else c) ∧
        |r.value n| ≤ |g| ∧ |g| - |r.value n| < lastDigit n r.chr) ∧
    (∀ r, o = { value := some r, exc := none } →
      0 ≤ r.chr ∧ r.chr ≤ 127 ∧ r.man < 16 ^ n ∧ (norm = true → 16 ^ (n - 1) ≤ r.man) ∧
      |r.value n - e| < lastDigit n (max r.chr (max x.chr y.chr)))

/-- What Mul, Div and Halve deliver in every case: a true zero for an operand (a dividend) with mantissa 0, R504; else the exact result
cut off to a normalized number with the algebraic sign, delivered as R503 says. What Round delivers, R560: the number with fewer digits
that is nearest, half a unit away from zero, with the characteristic of the operand (one more after a carry), delivered as R503 says. -/
def Obligations.FloatingProductsAreTruncatedAndRoundingIsToNearest : Prop :=
  (∀ (n nr : Nat) (mu : Bool) (x y : FNum) (o : FOut) (v : ℚ), (n, nr) ∈ [(6, 6), (6, 14), (14, 14), (14, 28), (28, 28)] →
    x.man < 16 ^ n → y.man < 16 ^ n →
    (o = multiply n nr mu x y ∧ v = x.value n * y.value n ∨
      o = divide n mu x y ∧ nr = n ∧ y.man ≠ 0 ∧ v = x.value n / y.value n ∨
      o = halve n mu x ∧ nr = n ∧ v = x.value n / 2) →
    (v = 0 → o = { value := none, exc := none }) ∧
    (v ≠ 0 → ∃ r : FNum, o = r.delivered mu ∧ 16 ^ (nr - 1) ≤ r.man ∧ r.man < 16 ^ nr ∧ 0 < r.value nr * v ∧
      |r.value nr| ≤ |v| ∧ |v| - |r.value nr| < lastDigit nr r.chr) ∧
    (∀ r, o = { value := some r, exc := none } →
      0 ≤ r.chr ∧ r.chr ≤ 127 ∧ 16 ^ (nr - 1) ≤ r.man ∧ r.man < 16 ^ nr ∧ 0 < r.value nr * v ∧
      |r.value nr| ≤ |v| ∧ |v| - |r.value nr| < lastDigit nr r.chr)) ∧
  (∀ (n nr : Nat) (x : FNum), (n, nr) ∈ [(14, 6), (28, 14)] → x.man < 16 ^ n → 0 ≤ x.chr → x.chr ≤ 127 →
    (∃ r : FNum, roundTo n nr x = r.delivered false ∧ r.neg = x.neg ∧ r.man < 16 ^ nr ∧
      (r.chr = x.chr ∨ r.chr = x.chr + 1 ∧ r.man = 16 ^ (nr - 1)) ∧
      |x.value n| - |r.value nr| < lastDigit nr x.chr / 2 ∧ |r.value nr| - |x.value n| ≤ lastDigit nr x.chr / 2) ∧
    (∀ r, roundTo n nr x = { value := some r, exc := none } →
      r.neg = x.neg ∧ 0 ≤ r.chr ∧ r.chr ≤ 127 ∧ r.man < 16 ^ nr ∧ |r.value nr - x.value n| ≤ lastDigit nr r.chr / 2))

/-! ## ESA -/

/-- CPYA, EAR and SAR move a register; IAC shows the mode in byte 2 and in CC; TAR tests an ALET, that of access register 0 too.
LAE gives the address as LA and the access register of the base, or 0; in AR mode with an ALET whose bits 0 to 6 are not all zero
both registers are open (U9, log 24): it completes with some values in them. SAC with a code that the manual does not define is
refused (U10, log 25). The model's choices for TAR: the first entry with the ALET counts (log 10), its flag tells CC 1 from CC 2, and
without an entry CC is 3 and nothing interrupts (D20, log 18). -/
def Obligations.AccessRegistersAndModes : Prop :=
  ∀ (s : State) (r1 r2 x b : Reg) (d : Disp), s.cfg.hasEsa = true →
    exec (.cpya r1 r2) s = .next { s.setAr r1 (s.getAr r2) with pc := s.nextAddr 4 } ∧
    exec (.ear r1 r2) s = .next { s.setGr r1 (s.getAr r2) with pc := s.nextAddr 4 } ∧
    exec (.sar r1 r2) s = .next { s.setAr r1 (s.getGr r2) with pc := s.nextAddr 4 } ∧
    exec (.iac r1) s = .next
      { s.setGr r1 ((s.getGr r1).extractLsb' 16 16 ++ ((if s.asc then (0x02 : Byte) else 0) ++ (s.getGr r1).extractLsb' 0 8)) with
        cc := if s.asc then 2 else 0, pc := s.nextAddr 4 } ∧
    (s.getAr r1 = 0 → exec (.tar r1 r2) s = .next { s with cc := 0, pc := s.nextAddr 4 }) ∧
    (s.getAr r1 ≠ 0 → (∀ e ∈ s.accessList, e.alet ≠ s.getAr r1) →
      exec (.tar r1 r2) s = .next { s with cc := 3, pc := s.nextAddr 4 }) ∧
    (∀ f e l, s.getAr r1 ≠ 0 → s.accessList = f ++ e :: l → (∀ a ∈ f, a.alet ≠ s.getAr r1) → e.alet = s.getAr r1 →
      exec (.tar r1 r2) s = .next { s with cc := if e.class2 then 2 else 1, pc := s.nextAddr 4 }) ∧
    (s.asc = false ∨ b = 0 →
      exec (.lae r1 x b d) s = .next { (s.setGr r1 (s.addrx x b d)).setAr r1 0 with pc := s.nextAddr 4 }) ∧
    (s.asc = true → b ≠ 0 → (s.getAr b).toNat < 2 ^ 25 →
      exec (.lae r1 x b d) s = .next { (s.setGr r1 (s.addrx x b d)).setAr r1 (s.getAr b) with pc := s.nextAddr 4 }) ∧
    (s.asc = true → b ≠ 0 → 2 ^ 25 ≤ (s.getAr b).toNat → ∃ v w n,
      exec (.lae r1 x b d) s = .next { (s.setGr r1 v).setAr r1 w with pc := s.nextAddr 4, free := n }) ∧
    (∀ c, c = BitVec.ofNat 4 (((if b = 0 then 0 else (s.getGr b).toNat) + d.toNat) / 2 ^ 8) → c ≠ 0 → c ≠ 2 →
      exec (.sac b d) s = .refused (.sacUndefinedCode c))

/-- SAC: bits 20 to 23 of the sum of base and displacement switch the AR mode off (0000) or on (0010). -/
def Obligations.SetAddressSpaceControl : Prop :=
  ∀ (s : State) (b : Reg) (d : Disp) (c : Nat), s.cfg.hasEsa = true →
    c = ((if b = 0 then 0 else (s.getGr b).toNat) + d.toNat) / 2 ^ 8 % 2 ^ 4 →
    decode ([0xB2, 0x19] ++ baseDisp b d) = .ok (.sac b d, []) ∧
    (c = 0 → exec (.sac b d) s = .next { s with asc := false, pc := s.nextAddr 4 }) ∧
    (c = 2 → exec (.sac b d) s = .next { s with asc := true, pc := s.nextAddr 4 })

/-! ## What suppresses an instruction -/

/-- A read or write of a storage operand that fails, at its boundary or at a byte that is not allocated for the access, interrupts.
That nothing is written then is the model's choice after D15 (log 29), that the boundary is checked first the order of D11 (log 28).
That CS and CDS are checked for alignment also where STRICT_ALIGNMENT is false is the model's choice after D2 (log 39).
MVCL and CLCL stop at the first byte that cannot be accessed instead, with their progress in storage and in the register pairs and CC
as before (D12, log 20; log 21 for their spaces). The failing operands of C, CL, CH, CLI, AL, SL, N, O, X, CLC, TRT, of the source of
ED and EDMK and of the target of EX stand in the statements about these instructions. -/
def Obligations.FailingAccessSuppresses : Prop :=
  ∀ (s : State) (r1 r3 x b : Reg) (d : Disp) (m3 : Mask) (i2 : Byte),
    -- operands that are read
    (∀ k, s.readW (s.opX x b d) = .error k →
      (∀ i ∈ [Instr.a r1 x b d, .s r1 x b d, .l r1 x b d], exec i s = s.interrupt k) ∧
      (r1.getLsbD 0 = false → exec (.m r1 x b d) s = s.interrupt k ∧ exec (.d r1 x b d) s = s.interrupt k) ∧
      (r1.toNat ∈ [0, 2, 4, 6] → ∀ i ∈ [Instr.ae r1 x b d, .se r1 x b d, .au r1 x b d, .su r1 x b d, .ce r1 x b d, .me r1 x b d,
        .de r1 x b d, .le r1 x b d], exec i s = s.interrupt k)) ∧
    (∀ k, s.readH (s.opX x b d) = .error k →
      ∀ i ∈ [Instr.ah r1 x b d, .sh r1 x b d, .mh r1 x b d, .lh r1 x b d], exec i s = s.interrupt k) ∧
    (∀ k, s.readD (s.opX x b d) = .error k → exec (.cvb r1 x b d) s = s.interrupt k ∧
      (r1.toNat ∈ [0, 4] → exec (.mxd r1 x b d) s = s.interrupt k) ∧
      (r1.toNat ∈ [0, 2, 4, 6] → ∀ i ∈ [Instr.ad r1 x b d, .sd r1 x b d, .aw r1 x b d, .sw r1 x b d, .cd r1 x b d, .md r1 x b d,
        .dd r1 x b d, .ld r1 x b d], exec i s = s.interrupt k)) ∧
    (s.byteAllowed .read (s.opX x b d) 0 = false → exec (.ic r1 x b d) s = s.interrupt .addressTranslation) ∧
    (s.byteAllowed .read (s.opB b d) 0 = false → exec (.tm b d i2) s = s.interrupt .addressTranslation) ∧
    (s.allows .read (s.opB b d) (if m3 = 0 then 1 else m3.cpop.toNat) = false →
      exec (.clm r1 m3 b d) s = s.interrupt .addressTranslation ∧ exec (.icm r1 m3 b d) s = s.interrupt .addressTranslation) ∧
    -- operands that are stored
    (∀ c ∈ [(Instr.st r1 x b d, s.opX x b d, 4, True), (.sth r1 x b d, s.opX x b d, 2, True), (.stc r1 x b d, s.opX x b d, 1, True),
        (.ste r1 x b d, s.opX x b d, 4, r1.toNat ∈ [0, 2, 4, 6]), (.std r1 x b d, s.opX x b d, 8, r1.toNat ∈ [0, 2, 4, 6]),
        (.cvd r1 x b d, s.opX x b d, 8, True), (.stck b d, s.opB b d, 8, True), (.mvi b d i2, s.opB b d, 1, True)],
      c.2.2.2 →
        (s.misaligned c.2.1 c.2.2.1 = true → exec c.1 s = s.interrupt .specification) ∧
        (s.misaligned c.2.1 c.2.2.1 = false → s.allows .write c.2.1 c.2.2.1 = false →
          exec c.1 s = s.interrupt .addressTranslation)) ∧
    (s.allows .write (s.opB b d) m3.cpop.toNat = false → exec (.stcm r1 m3 b d) s = s.interrupt .addressTranslation) ∧
    -- LM, STM, LAM, STAM
    (∀ n, n = (if r1.toNat ≤ r3.toNat then r3.toNat - r1.toNat + 1 else r3.toNat + 17 - r1.toNat) →
      ∀ c ∈ [(Instr.lm r1 r3 b d, Access.read, True), (.stm r1 r3 b d, .write, True),
          (.lam r1 r3 b d, .read, s.cfg.hasEsa = true), (.stam r1 r3 b d, .write, s.cfg.hasEsa = true)],
        c.2.2 →
          (s.misaligned (s.opB b d) 4 = true → exec c.1 s = s.interrupt .specification) ∧
          (s.misaligned (s.opB b d) 4 = false → s.allows c.2.1 (s.opB b d) (4 * n) = false →
            exec c.1 s = s.interrupt .addressTranslation)) ∧
    -- updates of one operand; CS and CDS are checked for alignment on every CPU (D2)
    (s.allows .update (s.opB b d) 1 = false →
      ∀ i ∈ [Instr.ni b d i2, .oi b d i2, .xi b d i2, .ts b d], exec i s = s.interrupt .addressTranslation) ∧
    (∀ c ∈ [(Instr.cs r1 r3 b d, 4, True), (.cds r1 r3 b d, 8, r1.getLsbD 0 = false ∧ r3.getLsbD 0 = false)],
      c.2.2 →
        ((s.addrx 0 b d).toNat % c.2.1 ≠ 0 → exec c.1 s = s.interrupt .specification) ∧
        ((s.addrx 0 b d).toNat % c.2.1 = 0 → s.allows .update (s.opB b d) c.2.1 = false →
          exec c.1 s = s.interrupt .addressTranslation)) ∧
    -- two operands in storage
    (∀ (l1 l2 : Nat) (b2 : Reg) (d2 : Disp),
      ∀ c ∈ [(Instr.mvc l1 b d b2 d2, Access.write, l1 = l2), (.mvn l1 b d b2 d2, .update, l1 = l2),
          (.mvz l1 b d b2 d2, .update, l1 = l2), (.nc l1 b d b2 d2, .update, l1 = l2), (.oc l1 b d b2 d2, .update, l1 = l2),
          (.xc l1 b d b2 d2, .update, l1 = l2), (.mvo l1 l2 b d b2 d2, .update, True), (.pack l1 l2 b d b2 d2, .write, True),
          (.unpk l1 l2 b d b2 d2, .write, True), (.zap l1 l2 b d b2 d2, .write, True), (.ap l1 l2 b d b2 d2, .update, True),
          (.sp l1 l2 b d b2 d2, .update, True), (.cp l1 l2 b d b2 d2, .read, True),
          (.mp l1 l2 b d b2 d2, .update, l2 ≤ 8 ∧ l2 < l1), (.dp l1 l2 b d b2 d2, .update, l2 ≤ 8 ∧ l2 < l1)],
        c.2.2 → s.allows c.2.1 (s.opB b d) l1 = false ∨ s.allows .read (s.opB b2 d2) l2 = false →
        exec c.1 s = s.interrupt .addressTranslation) ∧
    (∀ (l : Nat) (b2 : Reg) (d2 : Disp) (i3 : Nibble), s.allows .update (s.opB b d) l = false →
      ∀ i ∈ [Instr.tr l b d b2 d2, .ed l b d b2 d2, .edmk l b d b2 d2, .srp l b d b2 d2 i3],
        exec i s = s.interrupt .addressTranslation) ∧
    (∀ (l k : Nat) (b2 : Reg) (d2 : Disp), l ≤ 256 → k < l →
      s.byteAllowed .read (s.opB b2 d2) (s.byteAt (s.opB b d) k).toNat = false →
      exec (.tr l b d b2 d2) s = s.interrupt .addressTranslation) ∧
    -- MVCL and CLCL
    (∀ (r2 : Reg) (n1 n2 k : Nat) (p q : Loc) (pad : Byte), r1.getLsbD 0 = false → r2.getLsbD 0 = false →
      p = s.opR r1 → q = s.opR r2 → n1 = (s.getGr (r1 + 1)).toNat % 2 ^ 24 → n2 = (s.getGr (r2 + 1)).toNat % 2 ^ 24 →
      pad = (s.getGr (r2 + 1)).extractLsb' 24 8 →
      (p.addr.toNat ≤ q.addr.toNat ∨ q.addr.toNat + min n1 n2 ≤ p.addr.toNat → k < n1 →
        (∀ i < k, s.byteAllowed .write p i = true ∧ (i < n2 → s.byteAllowed .read q i = true)) →
        s.byteAllowed .write p k = false ∨ k < n2 ∧ s.byteAllowed .read q k = false →
        ∃ t : State, exec (.mvcl r1 r2) s = t.interrupt .addressTranslation ∧
          ((∀ i < k, ∀ j < i, p.key j ≠ q.key i) → ∀ i < k, t.byteAt p i = if i < n2 then s.byteAt q i else pad) ∧
          (t.getGr r1).toNat = p.at k ∧ (t.getGr (r1 + 1)).toNat = (s.getGr (r1 + 1)).toNat - k ∧
          (t.getGr r2).toNat = q.at (min k n2) ∧ (t.getGr (r2 + 1)).toNat = (s.getGr (r2 + 1)).toNat - min k n2 ∧
          (∀ r, r ≠ r1 → r ≠ r1 + 1 → r ≠ r2 → r ≠ r2 + 1 → t.getGr r = s.getGr r) ∧
          s.SameOutside t p k ∧ { t with mem := s.mem, gr := s.gr } = s) ∧
      (k < max n1 n2 →
        (∀ i < k, (i < n1 → s.byteAllowed .read p i = true) ∧ (i < n2 → s.byteAllowed .read q i = true) ∧
          (if i < n1 then s.byteAt p i else pad) = (if i < n2 then s.byteAt q i else pad)) →
        k < n1 ∧ s.byteAllowed .read p k = false ∨ k < n2 ∧ s.byteAllowed .read q k = false →
        ∃ t : State, exec (.clcl r1 r2) s = t.interrupt .addressTranslation ∧
          (t.getGr r1).toNat = p.at (min k n1) ∧ (t.getGr (r1 + 1)).toNat = (s.getGr (r1 + 1)).toNat - min k n1 ∧
          (t.getGr r2).toNat = q.at (min k n2) ∧ (t.getGr (r2 + 1)).toNat = (s.getGr (r2 + 1)).toNat - min k n2 ∧
          (∀ r, r ≠ r1 → r ≠ r1 + 1 → r ≠ r2 → r ≠ r2 + 1 → t.getGr r = s.getGr r) ∧ { t with gr := s.gr } = s))

/-- Register numbers and lengths that an instruction does not accept interrupt it. R113 and R443: so does an instruction that the CPU
does not have. The model's choices: nothing is changed then (D15, log 29); the numbers and lengths are checked before any access (D11,
log 28); which of the two operation interruptions a missing instruction raises, but for DXR and TAR (D10, log 42). -/
def Obligations.WrongFieldsAndMissingInstructionsInterrupt : Prop :=
  ∀ (s : State) (r1 r2 r3 x b b2 : Reg) (d d2 : Disp) (l1 l2 : Nat),
    (r1.getLsbD 0 = true → ∀ i ∈ [Instr.mr r1 r2, .m r1 x b d, .dr r1 r2, .d r1 x b d, .slda r1 b d, .sldl r1 b d, .srda r1 b d,
      .srdl r1 b d], exec i s = s.interrupt .specification) ∧
    (r1.getLsbD 0 = true ∨ r2.getLsbD 0 = true →
      ∀ i ∈ [Instr.cds r1 r2 b d, .mvcl r1 r2, .clcl r1 r2], exec i s = s.interrupt .specification) ∧
    (r1.toNat ∉ [0, 2, 4, 6] ∨ r2.toNat ∉ [0, 2, 4, 6] → ∀ i ∈ [Instr.aer r1 r2, .ser r1 r2, .aur r1 r2, .sur r1 r2, .cer r1 r2,
      .mer r1 r2, .der r1 r2, .her r1 r2, .ler r1 r2, .lter r1 r2, .lcer r1 r2, .lper r1 r2, .lner r1 r2, .lrer r1 r2, .adr r1 r2,
      .sdr r1 r2, .awr r1 r2, .swr r1 r2, .cdr r1 r2, .mdr r1 r2, .ddr r1 r2, .hdr r1 r2, .ldr r1 r2, .ltdr r1 r2, .lcdr r1 r2,
      .lpdr r1 r2, .lndr r1 r2, .lrdr r1 r2, .mxdr r1 r2], exec i s = s.interrupt .specification) ∧
    (r1.toNat ∉ [0, 2, 4, 6] → ∀ i ∈ [Instr.ae r1 x b d, .se r1 x b d, .au r1 x b d, .su r1 x b d, .ce r1 x b d, .me r1 x b d,
      .de r1 x b d, .le r1 x b d, .ste r1 x b d, .ad r1 x b d, .sd r1 x b d, .aw r1 x b d, .sw r1 x b d, .cd r1 x b d, .md r1 x b d,
      .dd r1 x b d, .ld r1 x b d, .std r1 x b d], exec i s = s.interrupt .specification) ∧
    (r1.toNat ∉ [0, 4] ∨ r2.toNat ∉ [0, 4] →
      (∀ i ∈ [Instr.axr r1 r2, .sxr r1 r2, .mxr r1 r2], exec i s = s.interrupt .specification) ∧
      (s.cfg.has31Bit = true → exec (.dxr r1 r2) s = s.interrupt .specification)) ∧
    (r1.toNat ∉ [0, 4] → exec (.mxdr r1 r2) s = s.interrupt .specification ∧ exec (.mxd r1 x b d) s = s.interrupt .specification) ∧
    (r2.toNat ∉ [0, 4] → exec (.lrdr r1 r2) s = s.interrupt .specification) ∧
    (8 < l2 ∨ l1 ≤ l2 → exec (.mp l1 l2 b d b2 d2) s = s.interrupt .specification ∧
      exec (.dp l1 l2 b d b2 d2) s = s.interrupt .specification) ∧
    (s.cfg.hasEsa = false → ∀ i ∈ [Instr.cpya r1 r2, .ear r1 r2, .sar r1 r2, .iac r1, .lae r1 x b d, .lam r1 r3 b d,
      .stam r1 r3 b d, .sac b d, .tar r1 r2], exec i s = s.interrupt .privilegedOperation) ∧
    (s.cfg.has31Bit = false → ∀ i ∈ [Instr.bsm r1 r2, .bassm r1 r2, .basr r1 r2, .bas r1 x b d, .dxr r1 r2],
      exec i s = s.interrupt .operation)
end

