-- ==== Sys2Proof/Laws/State.lean ====
section
/-! SUPPORT. What each update of a register leaves as it was, one lemma per field, and reading a register after writing one. -/

namespace Sys2Proof.Machine

@[simp] theorem State.setGr_cfg (s : State) (r : Reg) (v : Word) : (s.setGr r v).cfg = s.cfg := rfl
@[simp] theorem State.setGr_ar (s : State) (r : Reg) (v : Word) : (s.setGr r v).ar = s.ar := rfl
@[simp] theorem State.setGr_fpr (s : State) (r : Reg) (v : Word) : (s.setGr r v).fpr = s.fpr := rfl
@[simp] theorem State.setGr_pc (s : State) (r : Reg) (v : Word) : (s.setGr r v).pc = s.pc := rfl
@[simp] theorem State.setGr_cc (s : State) (r : Reg) (v : Word) : (s.setGr r v).cc = s.cc := rfl
@[simp] theorem State.setGr_pm (s : State) (r : Reg) (v : Word) : (s.setGr r v).pm = s.pm := rfl
@[simp] theorem State.setGr_amode (s : State) (r : Reg) (v : Word) : (s.setGr r v).amode = s.amode := rfl
@[simp] theorem State.setGr_asc (s : State) (r : Reg) (v : Word) : (s.setGr r v).asc = s.asc := rfl
@[simp] theorem State.setGr_tod (s : State) (r : Reg) (v : Word) : (s.setGr r v).tod = s.tod := rfl
@[simp] theorem State.setGr_mem (s : State) (r : Reg) (v : Word) : (s.setGr r v).mem = s.mem := rfl
@[simp] theorem State.setGr_pages (s : State) (r : Reg) (v : Word) : (s.setGr r v).pages = s.pages := rfl
@[simp] theorem State.setGr_accessList (s : State) (r : Reg) (v : Word) : (s.setGr r v).accessList = s.accessList := rfl
@[simp] theorem State.setGr_stxit (s : State) (r : Reg) (v : Word) : (s.setGr r v).stxit = s.stxit := rfl
@[simp] theorem State.setGr_svcCode (s : State) (r : Reg) (v : Word) : (s.setGr r v).svcCode = s.svcCode := rfl
@[simp] theorem State.setGr_status (s : State) (r : Reg) (v : Word) : (s.setGr r v).status = s.status := rfl
@[simp] theorem State.setGr_viaEx (s : State) (r : Reg) (v : Word) : (s.setGr r v).viaEx = s.viaEx := rfl
@[simp] theorem State.setGr_free (s : State) (r : Reg) (v : Word) : (s.setGr r v).free = s.free := rfl

@[simp] theorem State.setAr_cfg (s : State) (r : Reg) (v : Word) : (s.setAr r v).cfg = s.cfg := rfl
@[simp] theorem State.setAr_gr (s : State) (r : Reg) (v : Word) : (s.setAr r v).gr = s.gr := rfl
@[simp] theorem State.setAr_fpr (s : State) (r : Reg) (v : Word) : (s.setAr r v).fpr = s.fpr := rfl
@[simp] theorem State.setAr_pc (s : State) (r : Reg) (v : Word) : (s.setAr r v).pc = s.pc := rfl
@[simp] theorem State.setAr_cc (s : State) (r : Reg) (v : Word) : (s.setAr r v).cc = s.cc := rfl
@[simp] theorem State.setAr_pm (s : State) (r : Reg) (v : Word) : (s.setAr r v).pm = s.pm := rfl
@[simp] theorem State.setAr_amode (s : State) (r : Reg) (v : Word) : (s.setAr r v).amode = s.amode := rfl
@[simp] theorem State.setAr_asc (s : State) (r : Reg) (v : Word) : (s.setAr r v).asc = s.asc := rfl
@[simp] theorem State.setAr_tod (s : State) (r : Reg) (v : Word) : (s.setAr r v).tod = s.tod := rfl
@[simp] theorem State.setAr_mem (s : State) (r : Reg) (v : Word) : (s.setAr r v).mem = s.mem := rfl
@[simp] theorem State.setAr_pages (s : State) (r : Reg) (v : Word) : (s.setAr r v).pages = s.pages := rfl
@[simp] theorem State.setAr_accessList (s : State) (r : Reg) (v : Word) : (s.setAr r v).accessList = s.accessList := rfl
@[simp] theorem State.setAr_stxit (s : State) (r : Reg) (v : Word) : (s.setAr r v).stxit = s.stxit := rfl
@[simp] theorem State.setAr_svcCode (s : State) (r : Reg) (v : Word) : (s.setAr r v).svcCode = s.svcCode := rfl
@[simp] theorem State.setAr_status (s : State) (r : Reg) (v : Word) : (s.setAr r v).status = s.status := rfl
@[simp] theorem State.setAr_viaEx (s : State) (r : Reg) (v : Word) : (s.setAr r v).viaEx = s.viaEx := rfl
@[simp] theorem State.setAr_free (s : State) (r : Reg) (v : Word) : (s.setAr r v).free = s.free := rfl

@[simp] theorem State.setFpr_cfg (s : State) (r : Reg) (v : Dword) : (s.setFpr r v).cfg = s.cfg := rfl
@[simp] theorem State.setFpr_gr (s : State) (r : Reg) (v : Dword) : (s.setFpr r v).gr = s.gr := rfl
@[simp] theorem State.setFpr_ar (s : State) (r : Reg) (v : Dword) : (s.setFpr r v).ar = s.ar := rfl
@[simp] theorem State.setFpr_pc (s : State) (r : Reg) (v : Dword) : (s.setFpr r v).pc = s.pc := rfl
@[simp] theorem State.setFpr_cc (s : State) (r : Reg) (v : Dword) : (s.setFpr r v).cc = s.cc := rfl
@[simp] theorem State.setFpr_pm (s : State) (r : Reg) (v : Dword) : (s.setFpr r v).pm = s.pm := rfl
@[simp] theorem State.setFpr_amode (s : State) (r : Reg) (v : Dword) : (s.setFpr r v).amode = s.amode := rfl
@[simp] theorem State.setFpr_asc (s : State) (r : Reg) (v : Dword) : (s.setFpr r v).asc = s.asc := rfl
@[simp] theorem State.setFpr_tod (s : State) (r : Reg) (v : Dword) : (s.setFpr r v).tod = s.tod := rfl
@[simp] theorem State.setFpr_mem (s : State) (r : Reg) (v : Dword) : (s.setFpr r v).mem = s.mem := rfl
@[simp] theorem State.setFpr_pages (s : State) (r : Reg) (v : Dword) : (s.setFpr r v).pages = s.pages := rfl
@[simp] theorem State.setFpr_accessList (s : State) (r : Reg) (v : Dword) : (s.setFpr r v).accessList = s.accessList := rfl
@[simp] theorem State.setFpr_stxit (s : State) (r : Reg) (v : Dword) : (s.setFpr r v).stxit = s.stxit := rfl
@[simp] theorem State.setFpr_svcCode (s : State) (r : Reg) (v : Dword) : (s.setFpr r v).svcCode = s.svcCode := rfl
@[simp] theorem State.setFpr_status (s : State) (r : Reg) (v : Dword) : (s.setFpr r v).status = s.status := rfl
@[simp] theorem State.setFpr_viaEx (s : State) (r : Reg) (v : Dword) : (s.setFpr r v).viaEx = s.viaEx := rfl
@[simp] theorem State.setFpr_free (s : State) (r : Reg) (v : Dword) : (s.setFpr r v).free = s.free := rfl

@[simp] theorem State.setCc_cfg (s : State) (c : BitVec 2) : (s.setCc c).cfg = s.cfg := rfl
@[simp] theorem State.setCc_gr (s : State) (c : BitVec 2) : (s.setCc c).gr = s.gr := rfl
@[simp] theorem State.setCc_ar (s : State) (c : BitVec 2) : (s.setCc c).ar = s.ar := rfl
@[simp] theorem State.setCc_fpr (s : State) (c : BitVec 2) : (s.setCc c).fpr = s.fpr := rfl
@[simp] theorem State.setCc_pc (s : State) (c : BitVec 2) : (s.setCc c).pc = s.pc := rfl
@[simp] theorem State.setCc_pm (s : State) (c : BitVec 2) : (s.setCc c).pm = s.pm := rfl
@[simp] theorem State.setCc_amode (s : State) (c : BitVec 2) : (s.setCc c).amode = s.amode := rfl
@[simp] theorem State.setCc_asc (s : State) (c : BitVec 2) : (s.setCc c).asc = s.asc := rfl
@[simp] theorem State.setCc_tod (s : State) (c : BitVec 2) : (s.setCc c).tod = s.tod := rfl
@[simp] theorem State.setCc_mem (s : State) (c : BitVec 2) : (s.setCc c).mem = s.mem := rfl
@[simp] theorem State.setCc_pages (s : State) (c : BitVec 2) : (s.setCc c).pages = s.pages := rfl
@[simp] theorem State.setCc_accessList (s : State) (c : BitVec 2) : (s.setCc c).accessList = s.accessList := rfl
@[simp] theorem State.setCc_stxit (s : State) (c : BitVec 2) : (s.setCc c).stxit = s.stxit := rfl
@[simp] theorem State.setCc_svcCode (s : State) (c : BitVec 2) : (s.setCc c).svcCode = s.svcCode := rfl
@[simp] theorem State.setCc_status (s : State) (c : BitVec 2) : (s.setCc c).status = s.status := rfl
@[simp] theorem State.setCc_viaEx (s : State) (c : BitVec 2) : (s.setCc c).viaEx = s.viaEx := rfl
@[simp] theorem State.setCc_free (s : State) (c : BitVec 2) : (s.setCc c).free = s.free := rfl

@[simp] theorem State.advance_cfg (s : State) (n : Nat) : (s.advance n).cfg = s.cfg := rfl
@[simp] theorem State.advance_gr (s : State) (n : Nat) : (s.advance n).gr = s.gr := rfl
@[simp] theorem State.advance_ar (s : State) (n : Nat) : (s.advance n).ar = s.ar := rfl
@[simp] theorem State.advance_fpr (s : State) (n : Nat) : (s.advance n).fpr = s.fpr := rfl
@[simp] theorem State.advance_cc (s : State) (n : Nat) : (s.advance n).cc = s.cc := rfl
@[simp] theorem State.advance_pm (s : State) (n : Nat) : (s.advance n).pm = s.pm := rfl
@[simp] theorem State.advance_amode (s : State) (n : Nat) : (s.advance n).amode = s.amode := rfl
@[simp] theorem State.advance_asc (s : State) (n : Nat) : (s.advance n).asc = s.asc := rfl
@[simp] theorem State.advance_tod (s : State) (n : Nat) : (s.advance n).tod = s.tod := rfl
@[simp] theorem State.advance_mem (s : State) (n : Nat) : (s.advance n).mem = s.mem := rfl
@[simp] theorem State.advance_pages (s : State) (n : Nat) : (s.advance n).pages = s.pages := rfl
@[simp] theorem State.advance_accessList (s : State) (n : Nat) : (s.advance n).accessList = s.accessList := rfl
@[simp] theorem State.advance_stxit (s : State) (n : Nat) : (s.advance n).stxit = s.stxit := rfl
@[simp] theorem State.advance_svcCode (s : State) (n : Nat) : (s.advance n).svcCode = s.svcCode := rfl
@[simp] theorem State.advance_status (s : State) (n : Nat) : (s.advance n).status = s.status := rfl
@[simp] theorem State.advance_viaEx (s : State) (n : Nat) : (s.advance n).viaEx = s.viaEx := rfl
@[simp] theorem State.advance_free (s : State) (n : Nat) : (s.advance n).free = s.free := rfl

@[simp] theorem State.branch_cfg (s : State) (t : Word) : (s.branch t).cfg = s.cfg := rfl
@[simp] theorem State.branch_gr (s : State) (t : Word) : (s.branch t).gr = s.gr := rfl
@[simp] theorem State.branch_ar (s : State) (t : Word) : (s.branch t).ar = s.ar := rfl
@[simp] theorem State.branch_fpr (s : State) (t : Word) : (s.branch t).fpr = s.fpr := rfl
@[simp] theorem State.branch_cc (s : State) (t : Word) : (s.branch t).cc = s.cc := rfl
@[simp] theorem State.branch_pm (s : State) (t : Word) : (s.branch t).pm = s.pm := rfl
@[simp] theorem State.branch_amode (s : State) (t : Word) : (s.branch t).amode = s.amode := rfl
@[simp] theorem State.branch_asc (s : State) (t : Word) : (s.branch t).asc = s.asc := rfl
@[simp] theorem State.branch_tod (s : State) (t : Word) : (s.branch t).tod = s.tod := rfl
@[simp] theorem State.branch_mem (s : State) (t : Word) : (s.branch t).mem = s.mem := rfl
@[simp] theorem State.branch_pages (s : State) (t : Word) : (s.branch t).pages = s.pages := rfl
@[simp] theorem State.branch_accessList (s : State) (t : Word) : (s.branch t).accessList = s.accessList := rfl
@[simp] theorem State.branch_stxit (s : State) (t : Word) : (s.branch t).stxit = s.stxit := rfl
@[simp] theorem State.branch_svcCode (s : State) (t : Word) : (s.branch t).svcCode = s.svcCode := rfl
@[simp] theorem State.branch_status (s : State) (t : Word) : (s.branch t).status = s.status := rfl
@[simp] theorem State.branch_viaEx (s : State) (t : Word) : (s.branch t).viaEx = s.viaEx := rfl
@[simp] theorem State.branch_free (s : State) (t : Word) : (s.branch t).free = s.free := rfl

@[simp] theorem State.useFree_cfg (s : State) : (s.useFree).cfg = s.cfg := rfl
@[simp] theorem State.useFree_gr (s : State) : (s.useFree).gr = s.gr := rfl
@[simp] theorem State.useFree_ar (s : State) : (s.useFree).ar = s.ar := rfl
@[simp] theorem State.useFree_fpr (s : State) : (s.useFree).fpr = s.fpr := rfl
@[simp] theorem State.useFree_pc (s : State) : (s.useFree).pc = s.pc := rfl
@[simp] theorem State.useFree_cc (s : State) : (s.useFree).cc = s.cc := rfl
@[simp] theorem State.useFree_pm (s : State) : (s.useFree).pm = s.pm := rfl
@[simp] theorem State.useFree_amode (s : State) : (s.useFree).amode = s.amode := rfl
@[simp] theorem State.useFree_asc (s : State) : (s.useFree).asc = s.asc := rfl
@[simp] theorem State.useFree_tod (s : State) : (s.useFree).tod = s.tod := rfl
@[simp] theorem State.useFree_mem (s : State) : (s.useFree).mem = s.mem := rfl
@[simp] theorem State.useFree_pages (s : State) : (s.useFree).pages = s.pages := rfl
@[simp] theorem State.useFree_accessList (s : State) : (s.useFree).accessList = s.accessList := rfl
@[simp] theorem State.useFree_stxit (s : State) : (s.useFree).stxit = s.stxit := rfl
@[simp] theorem State.useFree_svcCode (s : State) : (s.useFree).svcCode = s.svcCode := rfl
@[simp] theorem State.useFree_status (s : State) : (s.useFree).status = s.status := rfl
@[simp] theorem State.useFree_viaEx (s : State) : (s.useFree).viaEx = s.viaEx := rfl

@[simp] theorem State.setCc_cc (s : State) (c : BitVec 2) : (s.setCc c).cc = c := rfl
@[simp] theorem State.advance_pc (s : State) (n : Nat) : (s.advance n).pc = s.nextAddr n := rfl
@[simp] theorem State.branch_pc (s : State) (t : Word) : (s.branch t).pc = trunc s.amode t := rfl
@[simp] theorem State.useFree_free (s : State) : s.useFree.free = s.free + 1 := rfl

@[simp] theorem State.setGr_getAr (s : State) (r : Reg) (v : Word) (q : Reg) : (s.setGr r v).getAr q = s.getAr q := rfl
@[simp] theorem State.setGr_getFpr (s : State) (r : Reg) (v : Word) (q : Reg) : (s.setGr r v).getFpr q = s.getFpr q := rfl
@[simp] theorem State.setGr_nextAddr (s : State) (r : Reg) (v : Word) (n : Nat) : (s.setGr r v).nextAddr n = s.nextAddr n := rfl
@[simp] theorem State.setAr_getGr (s : State) (r : Reg) (v : Word) (q : Reg) : (s.setAr r v).getGr q = s.getGr q := rfl
@[simp] theorem State.setAr_getFpr (s : State) (r : Reg) (v : Word) (q : Reg) : (s.setAr r v).getFpr q = s.getFpr q := rfl
@[simp] theorem State.setAr_nextAddr (s : State) (r : Reg) (v : Word) (n : Nat) : (s.setAr r v).nextAddr n = s.nextAddr n := rfl
@[simp] theorem State.setFpr_getGr (s : State) (r : Reg) (v : Dword) (q : Reg) : (s.setFpr r v).getGr q = s.getGr q := rfl
@[simp] theorem State.setFpr_getAr (s : State) (r : Reg) (v : Dword) (q : Reg) : (s.setFpr r v).getAr q = s.getAr q := rfl
@[simp] theorem State.setFpr_nextAddr (s : State) (r : Reg) (v : Dword) (n : Nat) : (s.setFpr r v).nextAddr n = s.nextAddr n := rfl
@[simp] theorem State.setCc_getGr (s : State) (c : BitVec 2) (q : Reg) : (s.setCc c).getGr q = s.getGr q := rfl
@[simp] theorem State.setCc_getAr (s : State) (c : BitVec 2) (q : Reg) : (s.setCc c).getAr q = s.getAr q := rfl
@[simp] theorem State.setCc_getFpr (s : State) (c : BitVec 2) (q : Reg) : (s.setCc c).getFpr q = s.getFpr q := rfl
@[simp] theorem State.setCc_nextAddr (s : State) (c : BitVec 2) (n : Nat) : (s.setCc c).nextAddr n = s.nextAddr n := rfl
@[simp] theorem State.advance_getGr (s : State) (n : Nat) (q : Reg) : (s.advance n).getGr q = s.getGr q := rfl
@[simp] theorem State.advance_getAr (s : State) (n : Nat) (q : Reg) : (s.advance n).getAr q = s.getAr q := rfl
@[simp] theorem State.advance_getFpr (s : State) (n : Nat) (q : Reg) : (s.advance n).getFpr q = s.getFpr q := rfl
@[simp] theorem State.branch_getGr (s : State) (t : Word) (q : Reg) : (s.branch t).getGr q = s.getGr q := rfl
@[simp] theorem State.branch_getAr (s : State) (t : Word) (q : Reg) : (s.branch t).getAr q = s.getAr q := rfl
@[simp] theorem State.branch_getFpr (s : State) (t : Word) (q : Reg) : (s.branch t).getFpr q = s.getFpr q := rfl
@[simp] theorem State.useFree_getGr (s : State) (q : Reg) : (s.useFree).getGr q = s.getGr q := rfl
@[simp] theorem State.useFree_getAr (s : State) (q : Reg) : (s.useFree).getAr q = s.getAr q := rfl
@[simp] theorem State.useFree_getFpr (s : State) (q : Reg) : (s.useFree).getFpr q = s.getFpr q := rfl
@[simp] theorem State.useFree_nextAddr (s : State) (n : Nat) : (s.useFree).nextAddr n = s.nextAddr n := rfl

theorem State.setGr_getGr (s : State) (r q : Reg) (v : Word) : (s.setGr r v).getGr q = if q = r then v else s.getGr q := by
  simp only [State.setGr, State.getGr, Vector.getElem_set, BitVec.toNat_inj, eq_comm]

@[simp] theorem State.setGr_getGr_self (s : State) (r : Reg) (v : Word) : (s.setGr r v).getGr r = v := by
  simp [State.setGr_getGr]

theorem State.setAr_getAr (s : State) (r q : Reg) (v : Word) : (s.setAr r v).getAr q = if q = r then v else s.getAr q := by
  simp only [State.setAr, State.getAr, Vector.getElem_set, BitVec.toNat_inj, eq_comm]

@[simp] theorem State.setAr_getAr_self (s : State) (r : Reg) (v : Word) : (s.setAr r v).getAr r = v := by
  simp [State.setAr_getAr]

theorem State.setFpr_getFpr (s : State) (r q : Reg) (v : Dword) :
    (s.setFpr r v).getFpr q = if fprIndex q = fprIndex r then v else s.getFpr q := by
  simp only [State.setFpr, State.getFpr, Vector.getElem_set, BitVec.toNat_inj, eq_comm]

/-- The halves of a doubleword put together. -/
@[simp] theorem append_low32 (a b : Word) : (a ++ b : Dword).extractLsb' 0 32 = b := BitVec.extractLsb'_append_eq_right
@[simp] theorem append_high32 (a b : Word) : (a ++ b : Dword).extractLsb' 32 32 = a := BitVec.extractLsb'_append_eq_left

/-- The short form of a register leaves the right half as it was, R14. -/
theorem State.setShort_right (s : State) (r : Reg) (v : Word) :
    ((s.setShort r v).getFpr r).extractLsb' 0 32 = (s.getFpr r).extractLsb' 0 32 := by
  rw [State.setShort, State.setFpr_getFpr, if_pos rfl, append_low32]

/-- Two states whose general registers agree one by one hold the same registers. -/
theorem State.gr_ext {s t : State} (h : ∀ r, s.getGr r = t.getGr r) : s.gr = t.gr := by
  apply Vector.ext
  intro i hi
  have := h (BitVec.ofNat 4 i)
  simpa [State.getGr, Nat.mod_eq_of_lt hi] using this

/-- Two states whose access registers agree one by one hold the same registers. -/
theorem State.ar_ext {s t : State} (h : ∀ r, s.getAr r = t.getAr r) : s.ar = t.ar := by
  apply Vector.ext
  intro i hi
  have := h (BitVec.ofNat 4 i)
  simpa [State.getAr, Nat.mod_eq_of_lt hi] using this

/-! ## The program as BS2000 lets it go on -/

@[simp] theorem State.resume_cfg (s : State) (h : HostReturn) : (s.resume h).cfg = s.cfg := rfl
@[simp] theorem State.resume_tod (s : State) (h : HostReturn) : (s.resume h).tod = s.tod := rfl
@[simp] theorem State.resume_svcCode (s : State) (h : HostReturn) : (s.resume h).svcCode = s.svcCode := rfl
@[simp] theorem State.resume_viaEx (s : State) (h : HostReturn) : (s.resume h).viaEx = s.viaEx := rfl
@[simp] theorem State.resume_gr (s : State) (h : HostReturn) : (s.resume h).gr = h.gr := rfl
@[simp] theorem State.resume_ar (s : State) (h : HostReturn) : (s.resume h).ar = h.ar := rfl
@[simp] theorem State.resume_fpr (s : State) (h : HostReturn) : (s.resume h).fpr = h.fpr := rfl
@[simp] theorem State.resume_pc (s : State) (h : HostReturn) : (s.resume h).pc = trunc (h.amode && s.cfg.has31Bit) h.pc := rfl
@[simp] theorem State.resume_cc (s : State) (h : HostReturn) : (s.resume h).cc = h.cc := rfl
@[simp] theorem State.resume_pm (s : State) (h : HostReturn) : (s.resume h).pm = h.pm := rfl
@[simp] theorem State.resume_amode (s : State) (h : HostReturn) : (s.resume h).amode = (h.amode && s.cfg.has31Bit) := rfl
@[simp] theorem State.resume_asc (s : State) (h : HostReturn) : (s.resume h).asc = (h.asc && s.cfg.hasEsa) := rfl
@[simp] theorem State.resume_mem (s : State) (h : HostReturn) : (s.resume h).mem = s.mem.setCells h.writes := rfl
@[simp] theorem State.resume_pages (s : State) (h : HostReturn) : (s.resume h).pages = h.pages := rfl
@[simp] theorem State.resume_accessList (s : State) (h : HostReturn) : (s.resume h).accessList = h.accessList := rfl
@[simp] theorem State.resume_stxit (s : State) (h : HostReturn) : (s.resume h).stxit = h.stxit := rfl
@[simp] theorem State.resume_status (s : State) (h : HostReturn) : (s.resume h).status = .running := rfl
@[simp] theorem State.resume_free (s : State) (h : HostReturn) : (s.resume h).free = s.free + 1 := rfl

end Sys2Proof.Machine
end

