-- ==== Sys2Proof/Laws/Memory.lean ====
section
/-! SUPPORT. Storage: reading after writing, and the canonical form, which every storage operation keeps. -/

namespace Sys2Proof.Machine

/-! ## Reading after writing -/

theorem Memory.get_cons (c : Host.Cell) (m : Memory) (j : Nat) :
    Memory.get (c :: m) j = if c.1 = j then c.2 else Memory.get m j := rfl

theorem Memory.get_erase (m : Memory) (k j : Nat) :
    Memory.get (Memory.erase m k) j = if j = k then Memory.unlisted else Memory.get m j := by
  induction m with
  | nil => simp [Memory.erase, Memory.get]
  | cons c cs ih =>
    simp only [Memory.erase] at ih
    by_cases h : c.1 = k
    · simp only [Memory.erase, List.filter_cons, h, bne_self_eq_false, Bool.false_eq_true, if_false, ih, Memory.get_cons]
      by_cases hj : j = k
      · simp [hj]
      · rw [if_neg hj, if_neg hj, if_neg (fun e => hj e.symm)]
    · simp only [Memory.erase, List.filter_cons, bne_iff_ne, ne_eq, h, not_false_eq_true, if_true, Memory.get_cons, ih]
      by_cases hj : c.1 = j
      · rw [if_pos hj, if_pos hj, if_neg (fun e => h (hj.trans e))]
      · rw [if_neg hj, if_neg hj]

theorem Memory.get_insert (m : Memory) (k j : Nat) (v : Byte) :
    Memory.get (Memory.insert m k v) j = if j = k then v else Memory.get m j := by
  induction m with
  | nil => simp only [Memory.insert, Memory.get_cons, eq_comm (a := k)]
  | cons c cs ih =>
    by_cases h1 : k < c.1
    · simp only [Memory.insert, h1, if_true, Memory.get_cons (k, v), eq_comm (a := k)]
    · by_cases h2 : c.1 = k
      · simp only [Memory.insert, h2, if_true, if_false, Memory.get_cons, eq_comm (a := k), lt_irrefl]
        split_ifs <;> rfl
      · simp only [Memory.insert, h1, h2, if_false, Memory.get_cons, ih]
        by_cases hj : c.1 = j
        · rw [if_pos hj, if_pos hj, if_neg (fun e => h2 (hj.trans e))]
        · rw [if_neg hj, if_neg hj]

/-- Reading after writing. -/
theorem Memory.get_set (m : Memory) (k j : Nat) (v : Byte) :
    Memory.get (Memory.set m k v) j = if j = k then v else Memory.get m j := by
  unfold Memory.set
  split_ifs with h1 h2 h2 <;> simp_all [Memory.get_erase, Memory.get_insert]

/-! ## The canonical form -/

theorem Memory.erase_wf {m : Memory} (k : Nat) (h : Memory.wf m) : Memory.wf (Memory.erase m k) :=
  ⟨h.1.filter _, fun c hc => h.2 c (List.mem_filter.1 hc).1⟩

theorem Memory.mem_insert {m : Memory} {k : Nat} {v : Byte} {c : Host.Cell} (h : c ∈ Memory.insert m k v) :
    c = (k, v) ∨ c ∈ m := by
  induction m with
  | nil => simpa [Memory.insert] using h
  | cons d ds ih =>
    unfold Memory.insert at h
    split_ifs at h
    · simpa using h
    · rcases List.mem_cons.1 h with h | h
      · exact .inl h
      · exact .inr (List.mem_cons_of_mem _ h)
    · rcases List.mem_cons.1 h with h | h
      · exact .inr (h ▸ List.mem_cons_self ..)
      · exact (ih h).imp id (List.mem_cons_of_mem _)

theorem Memory.insert_wf {m : Memory} (k : Nat) {v : Byte} (hv : v ≠ Memory.unlisted) (h : Memory.wf m) :
    Memory.wf (Memory.insert m k v) := by
  refine ⟨?_, fun c hc => ?_⟩
  · replace h := h.1
    induction m with
    | nil => simp [Memory.insert]
    | cons d ds ih =>
      rw [List.pairwise_cons] at h
      unfold Memory.insert
      split_ifs with h1 h2
      · refine List.pairwise_cons.2 ⟨fun c hc => ?_, List.pairwise_cons.2 h⟩
        rcases List.mem_cons.1 hc with rfl | hc
        · exact h1
        · exact h1.trans (h.1 c hc)
      · refine List.pairwise_cons.2 ⟨fun c hc => ?_, h.2⟩
        simpa [← h2] using h.1 c hc
      · refine List.pairwise_cons.2 ⟨fun c hc => ?_, ih h.2⟩
        rcases Memory.mem_insert hc with rfl | hc
        · simp only; omega
        · exact h.1 c hc
  · rcases Memory.mem_insert hc with rfl | hc
    · exact hv
    · exact h.2 c hc

/-- Storing a byte keeps the canonical form. -/
theorem Memory.set_wf {m : Memory} (k : Nat) (v : Byte) (h : Memory.wf m) : Memory.wf (Memory.set m k v) := by
  unfold Memory.set
  split_ifs with hv
  · exact Memory.erase_wf k h
  · exact Memory.insert_wf k hv (Memory.erase_wf k h)

/-- Storage at the start has the canonical form. -/
theorem Memory.reset_wf : Memory.wf State.reset.mem := ⟨List.Pairwise.nil, fun _ h => nomatch h⟩

/-! ## Bytes of an operand -/

/-- What storing a byte does to storage: the byte at this key, and nothing where the operand has no space. -/
theorem State.setByte_get (s : State) (l : Loc) (i : Nat) (v : Byte) (k : Nat) :
    (s.setByte l i v).mem.get k = if l.key i = some k then v else s.mem.get k := by
  unfold State.setByte
  cases h : l.key i with
  | none => simp
  | some j => simp [Memory.get_set, eq_comm]

/-- Storing a byte changes storage only. -/
theorem State.setByte_eq (s : State) (l : Loc) (i : Nat) (v : Byte) :
    s.setByte l i v = { s with mem := (s.setByte l i v).mem } := by
  unfold State.setByte; cases l.key i <;> rfl

theorem State.setByte_wf {s : State} (l : Loc) (i : Nat) (v : Byte) (h : Memory.wf s.mem) :
    Memory.wf (s.setByte l i v).mem := by
  unfold State.setByte
  cases l.key i with
  | none => exact h
  | some k => exact Memory.set_wf k v h

/-- Reading a byte after storing one. -/
theorem State.setByte_byteAt (s : State) (l l' : Loc) (i j : Nat) (v : Byte) :
    (s.setByte l i v).byteAt l' j = if l'.key j = l.key i ∧ l.key i ≠ none then v else s.byteAt l' j := by
  unfold State.byteAt
  cases h : l'.key j with
  | none => cases h2 : l.key i <;> simp
  | some k => simp only [State.setByte_get]; cases h2 : l.key i <;> simp [eq_comm]

/-- Storing a number changes storage only. -/
theorem State.store_eq (s : State) (l : Loc) (n v : Nat) : s.store l n v = { s with mem := (s.store l n v).mem } := by
  induction n generalizing v with
  | zero => rfl
  | succ n ih => rw [State.store, State.setByte_eq, ih]

theorem State.store_wf {s : State} (l : Loc) (n v : Nat) (h : Memory.wf s.mem) : Memory.wf (s.store l n v).mem := by
  induction n generalizing v with
  | zero => exact h
  | succ n ih => exact State.setByte_wf _ _ _ (ih _)

/-- Storing a number leaves every byte outside the operand. -/
theorem State.store_get_other (s : State) (l : Loc) (n v k : Nat) (h : ∀ i < n, l.key i ≠ some k) :
    (s.store l n v).mem.get k = s.mem.get k := by
  induction n generalizing v with
  | zero => rfl
  | succ n ih =>
    rw [State.store, State.setByte_get, if_neg (h n (by omega)), ih _ (fun i hi => h i (by omega))]

/-- The canonical form stays where BS2000 writes, R459. -/
theorem Memory.setCells_wf {m : Memory} (cs : List Host.Cell) (h : Memory.wf m) : Memory.wf (m.setCells cs) := by
  induction cs generalizing m with
  | nil => exact h
  | cons c cs ih => exact ih (Memory.set_wf _ _ h)

theorem State.resume_wf {s : State} (h : HostReturn) (hs : Memory.wf s.mem) : Memory.wf (s.resume h).mem :=
  Memory.setCells_wf _ hs

end Sys2Proof.Machine
end

