-- ==== Sys2Proof/Laws/Ops.lean ====
section
/-! SUPPORT. What each shared operation can do, said once: where it answers a next state, which one. -/

namespace Sys2Proof.Machine

/-! ## Ends of an instruction -/

/-- Taking an interruption, R449, where no STXIT process is defined. -/
theorem State.interrupt_off {s : State} (h : s.stxit = false) (k : Interruption) :
    s.interrupt k = .next { s with status := .terminated k } := by simp [State.interrupt, h]

/-- Taking an interruption, R449, where a STXIT process is defined, under the default host. -/
theorem State.interrupt_on {s : State} (h : s.stxit = true) (hd : s.cfg.hasServices = false) (k : Interruption) :
    s.interrupt k = .next { s.setGr 3 (k.weight.zeroExtend 32) with status := .stxit k } := by simp [State.interrupt, h, hd]

/-- Taking an interruption, R441, where a STXIT process is defined, under BS2000's own host: the state is handed over whole. -/
theorem State.interrupt_handed {s : State} (h : s.stxit = true) (hs : s.cfg.hasServices = true) (k : Interruption) :
    s.interrupt k = .next { s with status := .stxit k } := by simp [State.interrupt, h, hs]

/-- Taking an interruption always answers a next state. -/
theorem State.interrupt_cases {s t : State} {k : Interruption} (h : s.interrupt k = .next t) :
    t = { s with status := .terminated k } ∨ t = { s with status := .stxit k } ∨
      t = { s.setGr 3 (k.weight.zeroExtend 32) with status := .stxit k } := by
  unfold State.interrupt at h
  split_ifs at h <;> simp [← Host.Outcome.next.inj h]

/-- An update may be made where both a read and a write may, R61. -/
theorem State.addrAllowed_update (s : State) (space addr : Nat) :
    s.addrAllowed .update space addr = (s.addrAllowed .read space addr && s.addrAllowed .write space addr) := by
  simp only [State.addrAllowed, State.pageAllows]
  cases space != 0 || decide (addr ≤ s.cfg.addrTop) <;> simp

/-- What BS2000's routine does after an SVC, R459: it always gives a state, the host's, in which the program goes on or has ended. -/
theorem State.serve_cases {s t : State} (h : s.serve = .next t) :
    t = s.resume (hostSvc s.svcCode s) ∨ t = { s.resume (hostSvc s.svcCode s) with status := .ended } := by
  unfold State.serve at h
  split_ifs at h
  · exact .inl (Host.Outcome.next.inj h).symm
  · exact .inr (Host.Outcome.next.inj h).symm

/-- What BS2000 does where a STXIT process is defined, R449: it goes on only in the host that the parameter describes. -/
theorem State.activateStxit_next {s t : State} {k : Interruption} (h : s.activateStxit k = .next t) :
    s.cfg.hasServices = true ∧ t = (s.resume (hostInterruption k s)).setGr 3 (k.weight.zeroExtend 32) := by
  unfold State.activateStxit at h
  split at h
  · exact ⟨‹_›, (Host.Outcome.next.inj h).symm⟩
  · cases h

theorem State.finish_next {s t : State} {n : Nat} (h : s.finish n = .next t) : t = s.advance n :=
  (Host.Outcome.next.inj h).symm

theorem State.complete_next {s t : State} {n : Nat} {k : Option Interruption} (h : s.complete n k = .next t) :
    k = none ∧ t = s.advance n ∨ ∃ e, k = some e ∧ (s.advance n).interrupt e = .next t := by
  cases k with
  | none => exact .inl ⟨rfl, State.finish_next h⟩
  | some e => exact .inr ⟨e, rfl, h⟩

theorem State.require_next {s t : State} {c : Bool} {k : Interruption} {r : Result} (h : s.require c k r = .next t) :
    c = true ∧ r = .next t ∨ c = false ∧ s.interrupt k = .next t := by
  cases c with
  | true => exact .inl ⟨rfl, h⟩
  | false => exact .inr ⟨rfl, h⟩

theorem State.withOperand_next {α : Type} {s t : State} {x : Except Interruption α} {f : α → Result}
    (h : s.withOperand x f = .next t) :
    (∃ a, x = .ok a ∧ f a = .next t) ∨ ∃ k, x = .error k ∧ s.interrupt k = .next t := by
  cases x with
  | ok a => exact .inl ⟨a, rfl, h⟩
  | error k => exact .inr ⟨k, rfl, h⟩

@[simp] theorem State.require_true (s : State) (k : Interruption) (r : Result) : s.require true k r = r := rfl
@[simp] theorem State.require_false (s : State) (k : Interruption) (r : Result) : s.require false k r = s.interrupt k := rfl
@[simp] theorem State.withOperand_ok {α : Type} (s : State) (a : α) (f : α → Result) : s.withOperand (.ok a) f = f a := rfl
@[simp] theorem State.withOperand_error {α : Type} (s : State) (k : Interruption) (f : α → Result) :
    s.withOperand (.error k) f = s.interrupt k := rfl
@[simp] theorem State.complete_none (s : State) (n : Nat) : s.complete n none = .next (s.advance n) := rfl

/-! ## Access -/

/-- An operand may be accessed where each of its bytes may. -/
theorem State.allows_iff (s : State) (k : Access) (l : Loc) (n : Nat) :
    s.allows k l n = true ↔ ∀ i < n, s.byteAllowed k l i = true := by
  induction n with
  | zero => simp [State.allows]
  | succ n ih =>
    rw [State.allows, Bool.and_eq_true, ih]
    constructor
    · rintro ⟨h, hn⟩ i hi
      rcases Nat.lt_succ_iff_lt_or_eq.1 hi with hi | rfl
      · exact h i hi
      · exact hn
    · exact fun h => ⟨fun i hi => h i (by omega), h n (by omega)⟩

/-- An operand of at least one byte that may be accessed has a space. -/
theorem State.space_of_byteAllowed {s : State} {k : Access} {l : Loc} {i : Nat} (h : s.byteAllowed k l i = true) :
    ∃ sp, l.space = some sp := by
  unfold State.byteAllowed at h
  cases hs : l.space with
  | none => simp [hs] at h
  | some sp => exact ⟨sp, rfl⟩

theorem State.read_eq (s : State) (l : Loc) (n : Nat) :
    s.read l n = if s.allows .read l n then .ok (s.value l n) else .error .addressTranslation := rfl

theorem State.write_next {s t : State} {l : Loc} {n v : Nat} (h : s.write l n v = .ok t) :
    s.allows .write l n = true ∧ t = s.store l n v := by
  unfold State.write at h
  split at h
  · exact ⟨‹_›, (Except.ok.inj h).symm⟩
  · cases h

theorem State.writeAligned_next {s t : State} {l : Loc} {n v : Nat} (h : s.writeAligned l n v = .ok t) :
    s.misaligned l n = false ∧ s.allows .write l n = true ∧ t = s.store l n v := by
  unfold State.writeAligned at h
  split at h
  · cases h
  · rename_i hm
    exact ⟨by simpa using hm, State.write_next h⟩

/-! ## Keys -/

theorem trunc_toNat (amode : Bool) (a : Word) :
    (trunc amode a).toNat = a.toNat % (if amode then 2147483648 else 16777216) := by
  unfold trunc addrMask
  cases amode
  · simpa using Nat.and_two_pow_sub_one_eq_mod a.toNat 24
  · simpa using Nat.and_two_pow_sub_one_eq_mod a.toNat 31

theorem Loc.at_eq (l : Loc) (i : Nat) :
    l.at i = (l.addr.toNat + i) % (if l.amode then 2147483648 else 16777216) := by
  rw [Loc.at, trunc_toNat, BitVec.toNat_add, BitVec.toNat_ofNat]
  split <;> omega

theorem Loc.at_lt (l : Loc) (i : Nat) : l.at i < 2147483648 := by rw [Loc.at_eq]; split <;> omega

/-- Two bytes of one operand less than 2^24 apart are two bytes of storage, R57. -/
theorem Loc.key_inj {l : Loc} {i j : Nat} (hs : l.space ≠ none) (hi : i < 16777216) (hj : j < 16777216) :
    l.key i = l.key j ↔ i = j := by
  constructor
  · intro h
    obtain ⟨sp, hsp⟩ := Option.ne_none_iff_exists'.1 hs
    simp only [Loc.key, hsp, Option.map_some, Option.some.injEq, memKey, Loc.at_eq] at h
    split at h <;> omega
  · exact congrArg _

theorem Loc.key_ne_none {l : Loc} (i : Nat) (hs : l.space ≠ none) : l.key i ≠ none := by
  cases h : l.space <;> simp_all [Loc.key]

/-! ## Reading after storing -/

/-- Byte i of an operand after a number has been stored in it, R58: the leftmost byte is the most significant one. -/
theorem State.store_byteAt (s : State) (l : Loc) (n v i : Nat) (hs : l.space ≠ none) (hn : n ≤ 16777216) (hi : i < n) :
    (s.store l n v).byteAt l i = BitVec.ofNat 8 (v / 256 ^ (n - 1 - i)) := by
  induction n generalizing v with
  | zero => omega
  | succ n ih =>
    rw [State.store, State.setByte_byteAt]
    by_cases h : i = n
    · subst h
      simp [Loc.key_ne_none i hs]
    · have hk : l.key i ≠ l.key n := fun e => h ((Loc.key_inj hs (by omega) (by omega)).1 e)
      rw [if_neg (by simp [hk]), ih _ (by omega) (by omega), Nat.div_div_eq_div_mul,
        show n + 1 - 1 - i = n - 1 - i + 1 by omega, pow_succ, Nat.mul_comm]

/-- The number in an operand depends on its bytes only. -/
theorem State.value_congr {s t : State} {l : Loc} {n : Nat} (h : ∀ i < n, s.byteAt l i = t.byteAt l i) :
    s.value l n = t.value l n := by
  induction n with
  | zero => rfl
  | succ n ih => rw [State.value, State.value, ih (fun i hi => h i (by omega)), h n (by omega)]

theorem State.value_lt (s : State) (l : Loc) (n : Nat) : s.value l n < 256 ^ n := by
  induction n with
  | zero => simp [State.value]
  | succ n ih =>
    have := (s.byteAt l n).isLt
    rw [State.value, pow_succ]
    omega

/-- Reading a number after storing one in the same operand. -/
theorem State.store_value (s : State) (l : Loc) (n v : Nat) (hs : l.space ≠ none) (hn : n ≤ 16777216) :
    (s.store l n v).value l n = v % 256 ^ n := by
  induction n generalizing v with
  | zero => simp [State.value, Nat.mod_one]
  | succ n ih =>
    have hb : ∀ i < n, ((s.store l n (v / 256)).setByte l n (BitVec.ofNat 8 v)).byteAt l i =
        (s.store l n (v / 256)).byteAt l i := by
      intro i hi
      have hk : l.key i ≠ l.key n := fun e => by
        have := (Loc.key_inj hs (by omega) (by omega)).1 e
        omega
      rw [State.setByte_byteAt, if_neg (by simp [hk])]
    rw [State.value, State.store, State.value_congr hb, ih _ (by omega), State.setByte_byteAt,
      if_pos ⟨rfl, Loc.key_ne_none n hs⟩, BitVec.toNat_ofNat]
    have := Nat.mod_mul (x := v) (a := 256) (b := 256 ^ n)
    rw [show (256 : Nat) ^ (n + 1) = 256 * 256 ^ n by rw [pow_succ, Nat.mul_comm], this]
    omega

end Sys2Proof.Machine
end

