-- ==== Sys2Proof/Laws/PerInstr.lean ====
section
/-! SUPPORT. Laws about every instruction, one lemma per constructor. -/

namespace Sys2Proof.Laws

/-- The length of an encoding is the one that its first byte states, R92. -/
def EncodeLength.Statement (i : Instr) : Prop :=
  match encode i with
  | [] => False
  | b :: rest => rest.length + 1 = ilen b

theorem EncodeLength.spm (r1 : Reg) :
    EncodeLength.Statement (.spm r1) := rfl
theorem EncodeLength.balr (r1 : Reg) (r2 : Reg) :
    EncodeLength.Statement (.balr r1 r2) := rfl
theorem EncodeLength.bctr (r1 : Reg) (r2 : Reg) :
    EncodeLength.Statement (.bctr r1 r2) := rfl
theorem EncodeLength.bcr (m1 : Mask) (r2 : Reg) :
    EncodeLength.Statement (.bcr m1 r2) := rfl
theorem EncodeLength.svc (i : Byte) :
    EncodeLength.Statement (.svc i) := rfl
theorem EncodeLength.bsm (r1 : Reg) (r2 : Reg) :
    EncodeLength.Statement (.bsm r1 r2) := rfl
theorem EncodeLength.bassm (r1 : Reg) (r2 : Reg) :
    EncodeLength.Statement (.bassm r1 r2) := rfl
theorem EncodeLength.basr (r1 : Reg) (r2 : Reg) :
    EncodeLength.Statement (.basr r1 r2) := rfl
theorem EncodeLength.mvcl (r1 : Reg) (r2 : Reg) :
    EncodeLength.Statement (.mvcl r1 r2) := rfl
theorem EncodeLength.clcl (r1 : Reg) (r2 : Reg) :
    EncodeLength.Statement (.clcl r1 r2) := rfl
theorem EncodeLength.lpr (r1 : Reg) (r2 : Reg) :
    EncodeLength.Statement (.lpr r1 r2) := rfl
theorem EncodeLength.lnr (r1 : Reg) (r2 : Reg) :
    EncodeLength.Statement (.lnr r1 r2) := rfl
theorem EncodeLength.ltr (r1 : Reg) (r2 : Reg) :
    EncodeLength.Statement (.ltr r1 r2) := rfl
theorem EncodeLength.lcr (r1 : Reg) (r2 : Reg) :
    EncodeLength.Statement (.lcr r1 r2) := rfl
theorem EncodeLength.nr (r1 : Reg) (r2 : Reg) :
    EncodeLength.Statement (.nr r1 r2) := rfl
theorem EncodeLength.clr (r1 : Reg) (r2 : Reg) :
    EncodeLength.Statement (.clr r1 r2) := rfl
theorem EncodeLength.or (r1 : Reg) (r2 : Reg) :
    EncodeLength.Statement (.or r1 r2) := rfl
theorem EncodeLength.xr (r1 : Reg) (r2 : Reg) :
    EncodeLength.Statement (.xr r1 r2) := rfl
theorem EncodeLength.lr (r1 : Reg) (r2 : Reg) :
    EncodeLength.Statement (.lr r1 r2) := rfl
theorem EncodeLength.cr (r1 : Reg) (r2 : Reg) :
    EncodeLength.Statement (.cr r1 r2) := rfl
theorem EncodeLength.ar (r1 : Reg) (r2 : Reg) :
    EncodeLength.Statement (.ar r1 r2) := rfl
theorem EncodeLength.sr (r1 : Reg) (r2 : Reg) :
    EncodeLength.Statement (.sr r1 r2) := rfl
theorem EncodeLength.mr (r1 : Reg) (r2 : Reg) :
    EncodeLength.Statement (.mr r1 r2) := rfl
theorem EncodeLength.dr (r1 : Reg) (r2 : Reg) :
    EncodeLength.Statement (.dr r1 r2) := rfl
theorem EncodeLength.alr (r1 : Reg) (r2 : Reg) :
    EncodeLength.Statement (.alr r1 r2) := rfl
theorem EncodeLength.slr (r1 : Reg) (r2 : Reg) :
    EncodeLength.Statement (.slr r1 r2) := rfl
theorem EncodeLength.lpdr (r1 : Reg) (r2 : Reg) :
    EncodeLength.Statement (.lpdr r1 r2) := rfl
theorem EncodeLength.lndr (r1 : Reg) (r2 : Reg) :
    EncodeLength.Statement (.lndr r1 r2) := rfl
theorem EncodeLength.ltdr (r1 : Reg) (r2 : Reg) :
    EncodeLength.Statement (.ltdr r1 r2) := rfl
theorem EncodeLength.lcdr (r1 : Reg) (r2 : Reg) :
    EncodeLength.Statement (.lcdr r1 r2) := rfl
theorem EncodeLength.hdr (r1 : Reg) (r2 : Reg) :
    EncodeLength.Statement (.hdr r1 r2) := rfl
theorem EncodeLength.lrdr (r1 : Reg) (r2 : Reg) :
    EncodeLength.Statement (.lrdr r1 r2) := rfl
theorem EncodeLength.mxr (r1 : Reg) (r2 : Reg) :
    EncodeLength.Statement (.mxr r1 r2) := rfl
theorem EncodeLength.mxdr (r1 : Reg) (r2 : Reg) :
    EncodeLength.Statement (.mxdr r1 r2) := rfl
theorem EncodeLength.ldr (r1 : Reg) (r2 : Reg) :
    EncodeLength.Statement (.ldr r1 r2) := rfl
theorem EncodeLength.cdr (r1 : Reg) (r2 : Reg) :
    EncodeLength.Statement (.cdr r1 r2) := rfl
theorem EncodeLength.adr (r1 : Reg) (r2 : Reg) :
    EncodeLength.Statement (.adr r1 r2) := rfl
theorem EncodeLength.sdr (r1 : Reg) (r2 : Reg) :
    EncodeLength.Statement (.sdr r1 r2) := rfl
theorem EncodeLength.mdr (r1 : Reg) (r2 : Reg) :
    EncodeLength.Statement (.mdr r1 r2) := rfl
theorem EncodeLength.ddr (r1 : Reg) (r2 : Reg) :
    EncodeLength.Statement (.ddr r1 r2) := rfl
theorem EncodeLength.awr (r1 : Reg) (r2 : Reg) :
    EncodeLength.Statement (.awr r1 r2) := rfl
theorem EncodeLength.swr (r1 : Reg) (r2 : Reg) :
    EncodeLength.Statement (.swr r1 r2) := rfl
theorem EncodeLength.lper (r1 : Reg) (r2 : Reg) :
    EncodeLength.Statement (.lper r1 r2) := rfl
theorem EncodeLength.lner (r1 : Reg) (r2 : Reg) :
    EncodeLength.Statement (.lner r1 r2) := rfl
theorem EncodeLength.lter (r1 : Reg) (r2 : Reg) :
    EncodeLength.Statement (.lter r1 r2) := rfl
theorem EncodeLength.lcer (r1 : Reg) (r2 : Reg) :
    EncodeLength.Statement (.lcer r1 r2) := rfl
theorem EncodeLength.her (r1 : Reg) (r2 : Reg) :
    EncodeLength.Statement (.her r1 r2) := rfl
theorem EncodeLength.lrer (r1 : Reg) (r2 : Reg) :
    EncodeLength.Statement (.lrer r1 r2) := rfl
theorem EncodeLength.axr (r1 : Reg) (r2 : Reg) :
    EncodeLength.Statement (.axr r1 r2) := rfl
theorem EncodeLength.sxr (r1 : Reg) (r2 : Reg) :
    EncodeLength.Statement (.sxr r1 r2) := rfl
theorem EncodeLength.ler (r1 : Reg) (r2 : Reg) :
    EncodeLength.Statement (.ler r1 r2) := rfl
theorem EncodeLength.cer (r1 : Reg) (r2 : Reg) :
    EncodeLength.Statement (.cer r1 r2) := rfl
theorem EncodeLength.aer (r1 : Reg) (r2 : Reg) :
    EncodeLength.Statement (.aer r1 r2) := rfl
theorem EncodeLength.ser (r1 : Reg) (r2 : Reg) :
    EncodeLength.Statement (.ser r1 r2) := rfl
theorem EncodeLength.mer (r1 : Reg) (r2 : Reg) :
    EncodeLength.Statement (.mer r1 r2) := rfl
theorem EncodeLength.der (r1 : Reg) (r2 : Reg) :
    EncodeLength.Statement (.der r1 r2) := rfl
theorem EncodeLength.aur (r1 : Reg) (r2 : Reg) :
    EncodeLength.Statement (.aur r1 r2) := rfl
theorem EncodeLength.sur (r1 : Reg) (r2 : Reg) :
    EncodeLength.Statement (.sur r1 r2) := rfl
theorem EncodeLength.sth (r1 : Reg) (x2 : Reg) (b2 : Reg) (d2 : Disp) :
    EncodeLength.Statement (.sth r1 x2 b2 d2) := rfl
theorem EncodeLength.la (r1 : Reg) (x2 : Reg) (b2 : Reg) (d2 : Disp) :
    EncodeLength.Statement (.la r1 x2 b2 d2) := rfl
theorem EncodeLength.stc (r1 : Reg) (x2 : Reg) (b2 : Reg) (d2 : Disp) :
    EncodeLength.Statement (.stc r1 x2 b2 d2) := rfl
theorem EncodeLength.ic (r1 : Reg) (x2 : Reg) (b2 : Reg) (d2 : Disp) :
    EncodeLength.Statement (.ic r1 x2 b2 d2) := rfl
theorem EncodeLength.ex (r1 : Reg) (x2 : Reg) (b2 : Reg) (d2 : Disp) :
    EncodeLength.Statement (.ex r1 x2 b2 d2) := rfl
theorem EncodeLength.bal (r1 : Reg) (x2 : Reg) (b2 : Reg) (d2 : Disp) :
    EncodeLength.Statement (.bal r1 x2 b2 d2) := rfl
theorem EncodeLength.bct (r1 : Reg) (x2 : Reg) (b2 : Reg) (d2 : Disp) :
    EncodeLength.Statement (.bct r1 x2 b2 d2) := rfl
theorem EncodeLength.bc (m1 : Mask) (x2 : Reg) (b2 : Reg) (d2 : Disp) :
    EncodeLength.Statement (.bc m1 x2 b2 d2) := rfl
theorem EncodeLength.lh (r1 : Reg) (x2 : Reg) (b2 : Reg) (d2 : Disp) :
    EncodeLength.Statement (.lh r1 x2 b2 d2) := rfl
theorem EncodeLength.ch (r1 : Reg) (x2 : Reg) (b2 : Reg) (d2 : Disp) :
    EncodeLength.Statement (.ch r1 x2 b2 d2) := rfl
theorem EncodeLength.ah (r1 : Reg) (x2 : Reg) (b2 : Reg) (d2 : Disp) :
    EncodeLength.Statement (.ah r1 x2 b2 d2) := rfl
theorem EncodeLength.sh (r1 : Reg) (x2 : Reg) (b2 : Reg) (d2 : Disp) :
    EncodeLength.Statement (.sh r1 x2 b2 d2) := rfl
theorem EncodeLength.mh (r1 : Reg) (x2 : Reg) (b2 : Reg) (d2 : Disp) :
    EncodeLength.Statement (.mh r1 x2 b2 d2) := rfl
theorem EncodeLength.bas (r1 : Reg) (x2 : Reg) (b2 : Reg) (d2 : Disp) :
    EncodeLength.Statement (.bas r1 x2 b2 d2) := rfl
theorem EncodeLength.cvd (r1 : Reg) (x2 : Reg) (b2 : Reg) (d2 : Disp) :
    EncodeLength.Statement (.cvd r1 x2 b2 d2) := rfl
theorem EncodeLength.cvb (r1 : Reg) (x2 : Reg) (b2 : Reg) (d2 : Disp) :
    EncodeLength.Statement (.cvb r1 x2 b2 d2) := rfl
theorem EncodeLength.st (r1 : Reg) (x2 : Reg) (b2 : Reg) (d2 : Disp) :
    EncodeLength.Statement (.st r1 x2 b2 d2) := rfl
theorem EncodeLength.lae (r1 : Reg) (x2 : Reg) (b2 : Reg) (d2 : Disp) :
    EncodeLength.Statement (.lae r1 x2 b2 d2) := rfl
theorem EncodeLength.n (r1 : Reg) (x2 : Reg) (b2 : Reg) (d2 : Disp) :
    EncodeLength.Statement (.n r1 x2 b2 d2) := rfl
theorem EncodeLength.cl (r1 : Reg) (x2 : Reg) (b2 : Reg) (d2 : Disp) :
    EncodeLength.Statement (.cl r1 x2 b2 d2) := rfl
theorem EncodeLength.o (r1 : Reg) (x2 : Reg) (b2 : Reg) (d2 : Disp) :
    EncodeLength.Statement (.o r1 x2 b2 d2) := rfl
theorem EncodeLength.x (r1 : Reg) (x2 : Reg) (b2 : Reg) (d2 : Disp) :
    EncodeLength.Statement (.x r1 x2 b2 d2) := rfl
theorem EncodeLength.l (r1 : Reg) (x2 : Reg) (b2 : Reg) (d2 : Disp) :
    EncodeLength.Statement (.l r1 x2 b2 d2) := rfl
theorem EncodeLength.c (r1 : Reg) (x2 : Reg) (b2 : Reg) (d2 : Disp) :
    EncodeLength.Statement (.c r1 x2 b2 d2) := rfl
theorem EncodeLength.a (r1 : Reg) (x2 : Reg) (b2 : Reg) (d2 : Disp) :
    EncodeLength.Statement (.a r1 x2 b2 d2) := rfl
theorem EncodeLength.s (r1 : Reg) (x2 : Reg) (b2 : Reg) (d2 : Disp) :
    EncodeLength.Statement (.s r1 x2 b2 d2) := rfl
theorem EncodeLength.m (r1 : Reg) (x2 : Reg) (b2 : Reg) (d2 : Disp) :
    EncodeLength.Statement (.m r1 x2 b2 d2) := rfl
theorem EncodeLength.d (r1 : Reg) (x2 : Reg) (b2 : Reg) (d2 : Disp) :
    EncodeLength.Statement (.d r1 x2 b2 d2) := rfl
theorem EncodeLength.al (r1 : Reg) (x2 : Reg) (b2 : Reg) (d2 : Disp) :
    EncodeLength.Statement (.al r1 x2 b2 d2) := rfl
theorem EncodeLength.sl (r1 : Reg) (x2 : Reg) (b2 : Reg) (d2 : Disp) :
    EncodeLength.Statement (.sl r1 x2 b2 d2) := rfl
theorem EncodeLength.std (r1 : Reg) (x2 : Reg) (b2 : Reg) (d2 : Disp) :
    EncodeLength.Statement (.std r1 x2 b2 d2) := rfl
theorem EncodeLength.mxd (r1 : Reg) (x2 : Reg) (b2 : Reg) (d2 : Disp) :
    EncodeLength.Statement (.mxd r1 x2 b2 d2) := rfl
theorem EncodeLength.ld (r1 : Reg) (x2 : Reg) (b2 : Reg) (d2 : Disp) :
    EncodeLength.Statement (.ld r1 x2 b2 d2) := rfl
theorem EncodeLength.cd (r1 : Reg) (x2 : Reg) (b2 : Reg) (d2 : Disp) :
    EncodeLength.Statement (.cd r1 x2 b2 d2) := rfl
theorem EncodeLength.ad (r1 : Reg) (x2 : Reg) (b2 : Reg) (d2 : Disp) :
    EncodeLength.Statement (.ad r1 x2 b2 d2) := rfl
theorem EncodeLength.sd (r1 : Reg) (x2 : Reg) (b2 : Reg) (d2 : Disp) :
    EncodeLength.Statement (.sd r1 x2 b2 d2) := rfl
theorem EncodeLength.md (r1 : Reg) (x2 : Reg) (b2 : Reg) (d2 : Disp) :
    EncodeLength.Statement (.md r1 x2 b2 d2) := rfl
theorem EncodeLength.dd (r1 : Reg) (x2 : Reg) (b2 : Reg) (d2 : Disp) :
    EncodeLength.Statement (.dd r1 x2 b2 d2) := rfl
theorem EncodeLength.aw (r1 : Reg) (x2 : Reg) (b2 : Reg) (d2 : Disp) :
    EncodeLength.Statement (.aw r1 x2 b2 d2) := rfl
theorem EncodeLength.sw (r1 : Reg) (x2 : Reg) (b2 : Reg) (d2 : Disp) :
    EncodeLength.Statement (.sw r1 x2 b2 d2) := rfl
theorem EncodeLength.ste (r1 : Reg) (x2 : Reg) (b2 : Reg) (d2 : Disp) :
    EncodeLength.Statement (.ste r1 x2 b2 d2) := rfl
theorem EncodeLength.le (r1 : Reg) (x2 : Reg) (b2 : Reg) (d2 : Disp) :
    EncodeLength.Statement (.le r1 x2 b2 d2) := rfl
theorem EncodeLength.ce (r1 : Reg) (x2 : Reg) (b2 : Reg) (d2 : Disp) :
    EncodeLength.Statement (.ce r1 x2 b2 d2) := rfl
theorem EncodeLength.ae (r1 : Reg) (x2 : Reg) (b2 : Reg) (d2 : Disp) :
    EncodeLength.Statement (.ae r1 x2 b2 d2) := rfl
theorem EncodeLength.se (r1 : Reg) (x2 : Reg) (b2 : Reg) (d2 : Disp) :
    EncodeLength.Statement (.se r1 x2 b2 d2) := rfl
theorem EncodeLength.me (r1 : Reg) (x2 : Reg) (b2 : Reg) (d2 : Disp) :
    EncodeLength.Statement (.me r1 x2 b2 d2) := rfl
theorem EncodeLength.de (r1 : Reg) (x2 : Reg) (b2 : Reg) (d2 : Disp) :
    EncodeLength.Statement (.de r1 x2 b2 d2) := rfl
theorem EncodeLength.au (r1 : Reg) (x2 : Reg) (b2 : Reg) (d2 : Disp) :
    EncodeLength.Statement (.au r1 x2 b2 d2) := rfl
theorem EncodeLength.su (r1 : Reg) (x2 : Reg) (b2 : Reg) (d2 : Disp) :
    EncodeLength.Statement (.su r1 x2 b2 d2) := rfl
theorem EncodeLength.bxh (r1 : Reg) (r3 : Reg) (b2 : Reg) (d2 : Disp) :
    EncodeLength.Statement (.bxh r1 r3 b2 d2) := rfl
theorem EncodeLength.bxle (r1 : Reg) (r3 : Reg) (b2 : Reg) (d2 : Disp) :
    EncodeLength.Statement (.bxle r1 r3 b2 d2) := rfl
theorem EncodeLength.srl (r1 : Reg) (b2 : Reg) (d2 : Disp) :
    EncodeLength.Statement (.srl r1 b2 d2) := rfl
theorem EncodeLength.sll (r1 : Reg) (b2 : Reg) (d2 : Disp) :
    EncodeLength.Statement (.sll r1 b2 d2) := rfl
theorem EncodeLength.sra (r1 : Reg) (b2 : Reg) (d2 : Disp) :
    EncodeLength.Statement (.sra r1 b2 d2) := rfl
theorem EncodeLength.sla (r1 : Reg) (b2 : Reg) (d2 : Disp) :
    EncodeLength.Statement (.sla r1 b2 d2) := rfl
theorem EncodeLength.srdl (r1 : Reg) (b2 : Reg) (d2 : Disp) :
    EncodeLength.Statement (.srdl r1 b2 d2) := rfl
theorem EncodeLength.sldl (r1 : Reg) (b2 : Reg) (d2 : Disp) :
    EncodeLength.Statement (.sldl r1 b2 d2) := rfl
theorem EncodeLength.srda (r1 : Reg) (b2 : Reg) (d2 : Disp) :
    EncodeLength.Statement (.srda r1 b2 d2) := rfl
theorem EncodeLength.slda (r1 : Reg) (b2 : Reg) (d2 : Disp) :
    EncodeLength.Statement (.slda r1 b2 d2) := rfl
theorem EncodeLength.stm (r1 : Reg) (r3 : Reg) (b2 : Reg) (d2 : Disp) :
    EncodeLength.Statement (.stm r1 r3 b2 d2) := rfl
theorem EncodeLength.tm (b1 : Reg) (d1 : Disp) (i2 : Byte) :
    EncodeLength.Statement (.tm b1 d1 i2) := rfl
theorem EncodeLength.mvi (b1 : Reg) (d1 : Disp) (i2 : Byte) :
    EncodeLength.Statement (.mvi b1 d1 i2) := rfl
theorem EncodeLength.ts (b2 : Reg) (d2 : Disp) :
    EncodeLength.Statement (.ts b2 d2) := rfl
theorem EncodeLength.ni (b1 : Reg) (d1 : Disp) (i2 : Byte) :
    EncodeLength.Statement (.ni b1 d1 i2) := rfl
theorem EncodeLength.cli (b1 : Reg) (d1 : Disp) (i2 : Byte) :
    EncodeLength.Statement (.cli b1 d1 i2) := rfl
theorem EncodeLength.oi (b1 : Reg) (d1 : Disp) (i2 : Byte) :
    EncodeLength.Statement (.oi b1 d1 i2) := rfl
theorem EncodeLength.xi (b1 : Reg) (d1 : Disp) (i2 : Byte) :
    EncodeLength.Statement (.xi b1 d1 i2) := rfl
theorem EncodeLength.lm (r1 : Reg) (r3 : Reg) (b2 : Reg) (d2 : Disp) :
    EncodeLength.Statement (.lm r1 r3 b2 d2) := rfl
theorem EncodeLength.lam (r1 : Reg) (r3 : Reg) (b2 : Reg) (d2 : Disp) :
    EncodeLength.Statement (.lam r1 r3 b2 d2) := rfl
theorem EncodeLength.stam (r1 : Reg) (r3 : Reg) (b2 : Reg) (d2 : Disp) :
    EncodeLength.Statement (.stam r1 r3 b2 d2) := rfl
theorem EncodeLength.mc (b1 : Reg) (d1 : Disp) (i2 : Byte) :
    EncodeLength.Statement (.mc b1 d1 i2) := rfl
theorem EncodeLength.stck (b2 : Reg) (d2 : Disp) :
    EncodeLength.Statement (.stck b2 d2) := rfl
theorem EncodeLength.sac (b2 : Reg) (d2 : Disp) :
    EncodeLength.Statement (.sac b2 d2) := rfl
theorem EncodeLength.ipm (r1 : Reg) :
    EncodeLength.Statement (.ipm r1) := rfl
theorem EncodeLength.iac (r1 : Reg) :
    EncodeLength.Statement (.iac r1) := rfl
theorem EncodeLength.dxr (r1 : Reg) (r2 : Reg) :
    EncodeLength.Statement (.dxr r1 r2) := rfl
theorem EncodeLength.tar (r1 : Reg) (r2 : Reg) :
    EncodeLength.Statement (.tar r1 r2) := rfl
theorem EncodeLength.cpya (r1 : Reg) (r2 : Reg) :
    EncodeLength.Statement (.cpya r1 r2) := rfl
theorem EncodeLength.sar (r1 : Reg) (r2 : Reg) :
    EncodeLength.Statement (.sar r1 r2) := rfl
theorem EncodeLength.ear (r1 : Reg) (r2 : Reg) :
    EncodeLength.Statement (.ear r1 r2) := rfl
theorem EncodeLength.cs (r1 : Reg) (r3 : Reg) (b2 : Reg) (d2 : Disp) :
    EncodeLength.Statement (.cs r1 r3 b2 d2) := rfl
theorem EncodeLength.cds (r1 : Reg) (r3 : Reg) (b2 : Reg) (d2 : Disp) :
    EncodeLength.Statement (.cds r1 r3 b2 d2) := rfl
theorem EncodeLength.clm (r1 : Reg) (m3 : Mask) (b2 : Reg) (d2 : Disp) :
    EncodeLength.Statement (.clm r1 m3 b2 d2) := rfl
theorem EncodeLength.stcm (r1 : Reg) (m3 : Mask) (b2 : Reg) (d2 : Disp) :
    EncodeLength.Statement (.stcm r1 m3 b2 d2) := rfl
theorem EncodeLength.icm (r1 : Reg) (m3 : Mask) (b2 : Reg) (d2 : Disp) :
    EncodeLength.Statement (.icm r1 m3 b2 d2) := rfl
theorem EncodeLength.mvn (l : Nat) (b1 : Reg) (d1 : Disp) (b2 : Reg) (d2 : Disp) :
    EncodeLength.Statement (.mvn l b1 d1 b2 d2) := rfl
theorem EncodeLength.mvc (l : Nat) (b1 : Reg) (d1 : Disp) (b2 : Reg) (d2 : Disp) :
    EncodeLength.Statement (.mvc l b1 d1 b2 d2) := rfl
theorem EncodeLength.mvz (l : Nat) (b1 : Reg) (d1 : Disp) (b2 : Reg) (d2 : Disp) :
    EncodeLength.Statement (.mvz l b1 d1 b2 d2) := rfl
theorem EncodeLength.nc (l : Nat) (b1 : Reg) (d1 : Disp) (b2 : Reg) (d2 : Disp) :
    EncodeLength.Statement (.nc l b1 d1 b2 d2) := rfl
theorem EncodeLength.clc (l : Nat) (b1 : Reg) (d1 : Disp) (b2 : Reg) (d2 : Disp) :
    EncodeLength.Statement (.clc l b1 d1 b2 d2) := rfl
theorem EncodeLength.oc (l : Nat) (b1 : Reg) (d1 : Disp) (b2 : Reg) (d2 : Disp) :
    EncodeLength.Statement (.oc l b1 d1 b2 d2) := rfl
theorem EncodeLength.xc (l : Nat) (b1 : Reg) (d1 : Disp) (b2 : Reg) (d2 : Disp) :
    EncodeLength.Statement (.xc l b1 d1 b2 d2) := rfl
theorem EncodeLength.tr (l : Nat) (b1 : Reg) (d1 : Disp) (b2 : Reg) (d2 : Disp) :
    EncodeLength.Statement (.tr l b1 d1 b2 d2) := rfl
theorem EncodeLength.trt (l : Nat) (b1 : Reg) (d1 : Disp) (b2 : Reg) (d2 : Disp) :
    EncodeLength.Statement (.trt l b1 d1 b2 d2) := rfl
theorem EncodeLength.ed (l : Nat) (b1 : Reg) (d1 : Disp) (b2 : Reg) (d2 : Disp) :
    EncodeLength.Statement (.ed l b1 d1 b2 d2) := rfl
theorem EncodeLength.edmk (l : Nat) (b1 : Reg) (d1 : Disp) (b2 : Reg) (d2 : Disp) :
    EncodeLength.Statement (.edmk l b1 d1 b2 d2) := rfl
theorem EncodeLength.srp (l1 : Nat) (b1 : Reg) (d1 : Disp) (b2 : Reg) (d2 : Disp) (i3 : Nibble) :
    EncodeLength.Statement (.srp l1 b1 d1 b2 d2 i3) := rfl
theorem EncodeLength.mvo (l1 : Nat) (l2 : Nat) (b1 : Reg) (d1 : Disp) (b2 : Reg) (d2 : Disp) :
    EncodeLength.Statement (.mvo l1 l2 b1 d1 b2 d2) := rfl
theorem EncodeLength.pack (l1 : Nat) (l2 : Nat) (b1 : Reg) (d1 : Disp) (b2 : Reg) (d2 : Disp) :
    EncodeLength.Statement (.pack l1 l2 b1 d1 b2 d2) := rfl
theorem EncodeLength.unpk (l1 : Nat) (l2 : Nat) (b1 : Reg) (d1 : Disp) (b2 : Reg) (d2 : Disp) :
    EncodeLength.Statement (.unpk l1 l2 b1 d1 b2 d2) := rfl
theorem EncodeLength.zap (l1 : Nat) (l2 : Nat) (b1 : Reg) (d1 : Disp) (b2 : Reg) (d2 : Disp) :
    EncodeLength.Statement (.zap l1 l2 b1 d1 b2 d2) := rfl
theorem EncodeLength.cp (l1 : Nat) (l2 : Nat) (b1 : Reg) (d1 : Disp) (b2 : Reg) (d2 : Disp) :
    EncodeLength.Statement (.cp l1 l2 b1 d1 b2 d2) := rfl
theorem EncodeLength.ap (l1 : Nat) (l2 : Nat) (b1 : Reg) (d1 : Disp) (b2 : Reg) (d2 : Disp) :
    EncodeLength.Statement (.ap l1 l2 b1 d1 b2 d2) := rfl
theorem EncodeLength.sp (l1 : Nat) (l2 : Nat) (b1 : Reg) (d1 : Disp) (b2 : Reg) (d2 : Disp) :
    EncodeLength.Statement (.sp l1 l2 b1 d1 b2 d2) := rfl
theorem EncodeLength.mp (l1 : Nat) (l2 : Nat) (b1 : Reg) (d1 : Disp) (b2 : Reg) (d2 : Disp) :
    EncodeLength.Statement (.mp l1 l2 b1 d1 b2 d2) := rfl
theorem EncodeLength.dp (l1 : Nat) (l2 : Nat) (b1 : Reg) (d1 : Disp) (b2 : Reg) (d2 : Disp) :
    EncodeLength.Statement (.dp l1 l2 b1 d1 b2 d2) := rfl

end Sys2Proof.Laws
end

