-- ==== Sys2Proof/Tests/Slice0.lean ====
section
/-! SUPPORT. Tests. The words of test_decode are put together from the fields of R94 to R102. The values of the tests of one
instruction are those of spec/95_test_vectors.md or worked out by hand from the rule of the instruction. A witness shows that the
hypotheses of a statement can be met, each clause at a boundary of its range. -/

namespace Sys2Proof.Tests

open Machine

/-! ## The small states of the tests -/

/-- A readable and writable page. -/
def page (space n : Nat) : PageEntry := { space := space, page := n, readable := true, writable := true }

/-- A program at X'1000' with three pages from 0 on, the last page below 2^24, a data space 1, and two ALETs. -/
def st : State :=
  { State.reset with
    pc := 0x1000
    pages := [page 0 0, page 0 1, page 0 2, page 0 0xFFF, page 1 0]
    accessList := [{ alet := 7, space := 1, class2 := true }, { alet := 8, space := 1, class2 := false }] }

/-- An operand of the program space. -/
def loc (a : Word) : Loc := { space := some 0, addr := a, amode := false }
/-- A general register set. -/
def gr (r : Reg) (v : Word) (s : State) : State := s.setGr r v
/-- An access register set. -/
def ar (r : Reg) (v : Word) (s : State) : State := s.setAr r v
/-- A floating-point register set. -/
def fr (r : Reg) (v : Dword) (s : State) : State := s.setFpr r v
/-- Bytes of storage set from a big-endian number. -/
def mem (a : Word) (n v : Nat) (s : State) : State := s.store (loc a) n v
/-- The condition code set. -/
def withCc (c : BitVec 2) (s : State) : State := { s with cc := c }
/-- The program mask set. -/
def withPm (m : BitVec 4) (s : State) : State := { s with pm := m }
/-- The 31-bit mode. -/
def withAmode (s : State) : State := { s with amode := true }
/-- The AR mode. -/
def withAsc (s : State) : State := { s with asc := true }
/-- Another instruction address. -/
def withPc (a : Word) (s : State) : State := { s with pc := a }

/-- The next state of an instruction, where there is one. -/
def ran (i : Instr) (s : State) : Option State :=
  match exec i s with
  | .next t => some t
  | _ => none

/-- The state with BS2000's own hosts. -/
def withHost (k : RunStatus) : State := { st with cfg := { st.cfg with hasServices := true }, status := k }

/-- The hypotheses of EditOfAnyPattern on the first n pattern bytes. -/
def editRows (s : State) (p q : Loc) (n : Nat) (j : Nat → Nat) (sig nz : Nat → Bool) : Bool :=
  j 0 == 0 && !sig 0 && !nz 0 && (List.range n).all fun i =>
    let m := s.byteAt p i
    let b := s.byteAt q (j i / 2)
    let g := if j i % 2 = 0 then hiNibble b else loNibble b
    let plus := j i % 2 == 0 && [(10 : Nibble), 12, 14, 15].contains (loNibble b)
    if m = 0x20 ∨ m = 0x21 then
      (j i % 2 != 0 || s.byteAllowed .read q (j i / 2) && decide (g.toNat ≤ 9)) &&
      j (i + 1) == j i + (if j i % 2 = 0 ∧ 10 ≤ (loNibble b).toNat then 2 else 1) &&
      sig (i + 1) == (!plus && (sig i || g != 0 || m == 0x21)) && nz (i + 1) == (nz i || g != 0)
    else if m = 0x22 then j (i + 1) == j i && !sig (i + 1) && !nz (i + 1)
    else j (i + 1) == j i && sig (i + 1) == sig i && nz (i + 1) == nz i

/-! ## Ill-formed terms, which WellFormed refuses -/

theorem test_wf_one_length : ∀ l ∈ [0, 257],
    [Instr.mvn l 0 0 0 0, .mvc l 0 0 0 0, .mvz l 0 0 0 0, .nc l 0 0 0 0, .clc l 0 0 0 0, .oc l 0 0 0 0, .xc l 0 0 0 0, .tr l 0 0 0 0,
      .trt l 0 0 0 0, .ed l 0 0 0 0, .edmk l 0 0 0 0].all (fun i => !i.wf) = true := by decide

theorem test_wf_srp : ∀ l ∈ [0, 17], (Instr.srp l 0 0 0 0 5).wf = false := by decide

theorem test_wf_two_lengths : ∀ l ∈ [(0, 1), (17, 1), (1, 0), (1, 17)],
    [Instr.mvo l.1 l.2 0 0 0 0, .pack l.1 l.2 0 0 0 0, .unpk l.1 l.2 0 0 0 0, .zap l.1 l.2 0 0 0 0, .cp l.1 l.2 0 0 0 0,
      .ap l.1 l.2 0 0 0 0, .sp l.1 l.2 0 0 0 0, .mp l.1 l.2 0 0 0 0, .dp l.1 l.2 0 0 0 0].all (fun i => !i.wf) = true := by decide

/-- A code that table 7.3 does not list is refused by name, of one byte and of two. -/
theorem test_decode_unlisted :
    decode [0x00, 0x00] = .error (.unlistedOpcode 0) ∧ decode [0xB2, 0x00, 0, 0] = .error (.unlistedOpcode 0xB200) := by decide

/-- R61: a page with one entry for reading and one for writing may be updated. -/
theorem test_update_two_entries :
    ({ st with pages := [{ space := 0, page := 0, readable := true, writable := false },
        { space := 0, page := 0, readable := false, writable := true }] } : State).allows .update (loc 0x800) 4 = true := by decide

/-- R441: BS2000's own host is handed GR3 as the interrupted program has left it. -/
theorem test_interrupt_handed :
    (match ({ gr 3 7 (withHost .running) with stxit := true } : State).interrupt .data with
      | .next t => some (t.getGr 3, t.status)
      | _ => none) = some (7, .stxit .data) := by decide

/-! ## Whole steps -/

/-- A program that is about to run AR 1,2. -/
def atAr : State := mem 0x1000 2 0x1A12 st
/-- A program that is about to run MVI X'800',X'5C'. -/
def atMvi : State := mem 0x1000 4 0x925C0800 st
/-- A program that is about to run SR 0,0, with a STXIT process and an overflow to come. -/
def atSr : State := gr 2 0x80000000 (mem 0x1000 2 0x1B12 { st with stxit := true, pm := 15 })

theorem test_step_stxit :
    (match step atSr with | .next t => some (t.getGr 3, t.status, t.pc) | _ => none) =
      some (0x78, .stxit .fixedPointOverflow, 0x1002) := by decide

theorem test_step_after_termination :
    (match step { st with status := .terminated .data } with | .fault f => some f | _ => none) =
      some (.programTerminated .data) := by decide

/-- LA 1,X'123'(,5) stored at the address of the next fetch. -/
theorem test_step_withFetchWord :
    (match step (State.reset.withFetchWord 32 0x41105123) with | .next t => some (t.getGr 1, t.pc) | _ => none) =
      some (0x123, 4) := by decide

/-! ## Witnesses -/

theorem witness_EveryStepKeepsTheInvariant : atAr.Inv ∧ ∃ t, step atAr = .next t :=
  ⟨⟨by decide, by decide, by decide, by decide, by decide⟩, _, rfl⟩

theorem witness_DecodeOfEncodeGivesTheInstruction :
    (Instr.mvc 1 0 0 0 0).wf = true ∧ (Instr.mvc 256 15 0xFFF 15 0xFFF).wf = true ∧ (Instr.pack 1 16 0 0 0 0).wf = true ∧
      (Instr.srp 16 0 0 0 0 15).wf = true := by decide

theorem witness_StepRunsTheDecodedInstruction :
    atAr.status = .running ∧ atAr.pc.getLsbD 0 = false ∧ atAr.allows .read (atAr.code atAr.pc) 2 = true ∧
      atAr.allows .read (atAr.code atAr.pc) (ilen (atAr.byteAt (atAr.code atAr.pc) 0)) = true ∧
      decode (atAr.bytesFrom (atAr.code atAr.pc) 0 (ilen (atAr.byteAt (atAr.code atAr.pc) 0))) = .ok (.ar 1 2, []) := by decide

/-- An odd address, one without a page, a four-byte instruction in the last two bytes of a page, and a code that is not listed. -/
theorem witness_StepInterruptsWhereNothingDecodes :
    (withPc 0x1001 st).pc.getLsbD 0 = true ∧
    (let s := withPc 0x3000 st
     s.pc.getLsbD 0 = false ∧ s.allows .read (s.code s.pc) 2 = false) ∧
    (let s := withPc 0x2FFE (mem 0x2FFE 2 0x5810 st)
     s.pc.getLsbD 0 = false ∧ s.allows .read (s.code s.pc) 2 = true ∧
       s.allows .read (s.code s.pc) (ilen (s.byteAt (s.code s.pc) 0)) = false) ∧
    (let s := st
     s.pc.getLsbD 0 = false ∧ s.allows .read (s.code s.pc) 2 = true ∧
       s.allows .read (s.code s.pc) (ilen (s.byteAt (s.code s.pc) 0)) = true ∧
       decode (s.bytesFrom (s.code s.pc) 0 (ilen (s.byteAt (s.code s.pc) 0))) = .error (.unlistedOpcode 0)) := by decide

theorem witness_TakingAnInterruption :
    st.stxit = false ∧ atSr.stxit = true ∧ ({ st with status := .terminated .data } : State).status = .terminated .data ∧
      ({ st with status := .stxit .data } : State).status = .stxit .data ∧ st.cfg.hasServices = false ∧
      (withHost (.stxit .divide)).status = .stxit .divide ∧ (withHost (.stxit .divide)).cfg.hasServices = true := by decide

/-- AR 1,2 writes none of the registers and modes named; LAM, SAC, BSM, SPM and LDR write one each where the CPU has them. -/
theorem witness_WhoChangesWhat :
    (∃ t, exec (.ar 1 2) st = .next t) ∧ writesAr (st.executed (.ar 1 2)) = false ∧ writesAsc (st.executed (.ar 1 2)) = false ∧
      writesAmode (st.executed (.ar 1 2)) = false ∧ writesPm (st.executed (.ar 1 2)) = false ∧
      isFloating (st.executed (.ar 1 2)) = false ∧
      (∃ t, exec (.sar 1 2) { st with cfg := { st.cfg with hasEsa := false } } = .next t) ∧
      (∃ t, exec (.bsm 0 0) { st with cfg := { st.cfg with has31Bit := false } } = .next t) :=
  ⟨⟨_, rfl⟩, by decide, by decide, by decide, by decide, by decide, ⟨_, rfl⟩, ⟨_, rfl⟩⟩

theorem witness_StorageChangesOnlyWhereWritable :
    atMvi.status = .running ∧ ∃ t, step atMvi = .next t ∧ t.mem.get 0x800 ≠ atMvi.mem.get 0x800 := ⟨rfl, _, rfl, by decide⟩

theorem witness_SystemPartsStayAndTheClockNeverFalls : atMvi.status = .running ∧ ∃ t, step atMvi = .next t := ⟨rfl, _, rfl⟩

/-- The primary space mode; the AR mode with a base field of 0, with the ALET 0, with an ALET that has no entry, and with one whose
entry is not the first. -/
theorem witness_SpaceOfAnOperand :
    st.asc = false ∧ (withAsc st).getAr 5 = 0 ∧
    (let s := ar 5 9 (withAsc st)
     s.asc = true ∧ (5 : Reg) ≠ 0 ∧ s.getAr 5 ≠ 0 ∧ ∀ e ∈ s.accessList, e.alet ≠ s.getAr 5) ∧
    (let s := ar 5 8 (withAsc st)
     s.asc = true ∧ s.getAr 5 ≠ 0 ∧
       s.accessList = [{ alet := 7, space := 1, class2 := true }] ++ { alet := 8, space := 1, class2 := false } :: [] ∧
       (∀ a ∈ [({ alet := 7, space := 1, class2 := true } : AccessEntry)], a.alet ≠ s.getAr 5)) := by decide

/-- One byte off a boundary; the last byte beyond the page; the last aligned operands of a page; no strict alignment. -/
theorem witness_AlignedReadsAreCheckedAndBigEndian :
    (st.cfg.strictAlignment = true ∧ (loc 0x801).addr.toNat % 2 ≠ 0) ∧
    (({ st with cfg := { st.cfg with strictAlignment := false } } : State).cfg.strictAlignment = false ∧
      st.byteAllowed .read (loc 0x2FFD) 3 = false) ∧
    ((loc 0x2FFE).addr.toNat % 2 = 0 ∧ ∀ i < 2, st.byteAllowed .read (loc 0x2FFE) i = true) ∧
    ((loc 0x2FFC).addr.toNat % 4 = 0 ∧ ∀ i < 4, st.byteAllowed .read (loc 0x2FFC) i = true) ∧
    ((loc 0x2FF8).addr.toNat % 8 = 0 ∧ ∀ i < 8, st.byteAllowed .read (loc 0x2FF8) i = true) := by decide

/-- The greatest and the least sum that fit, and the next ones. -/
theorem witness_SignedRegisterArithmetic :
    (let s := gr 1 0x7FFFFFFE (gr 2 1 st); (s.getGr 1).toInt + (s.getGr 2).toInt = 2 ^ 31 - 1) ∧
    (let s := gr 1 0x80000001 (gr 2 1 st); (s.getGr 1).toInt - (s.getGr 2).toInt = -2 ^ 31) ∧
    (let s := gr 2 0x80000000 st; 2 ^ 31 - 1 < -(s.getGr 2).toInt) ∧
    (let s := gr 1 0x80000000 (gr 2 1 st); (s.getGr 1).toInt - (s.getGr 2).toInt < -2 ^ 31) := by decide

theorem witness_SignedStorageArithmetic :
    (let s := gr 1 0x7FFFFFFE (mem 0x800 4 1 st)
     s.readW (s.opX 0 0 0x800) = .ok 1 ∧ (1 : Word).toInt = 1 ∧ (s.getGr 1).toInt + 1 = 2 ^ 31 - 1) ∧
    (let s := gr 1 0x7FFFFFFF (mem 0x800 2 1 st)
     s.readH (s.opX 0 0 0x800) = .ok 1 ∧ (1 : Half).toInt = 1 ∧ 2 ^ 31 - 1 < (s.getGr 1).toInt + 1) ∧
    (let s := gr 1 0x80000000 (mem 0x800 2 0xFFFF st)
     s.readH (s.opX 0 0 0x800) = .ok 0xFFFF ∧ (0xFFFF : Half).toInt = -1 ∧ (s.getGr 1).toInt + -1 < -2 ^ 31) := by decide

theorem witness_LogicalAddAndSubtract :
    st.readW (st.opX 0 0 0x800) = .ok 0 ∧ st.readW (st.opX 0 0 0x802) = .error .specification ∧
      (gr 5 0x3000 st).readW ((gr 5 0x3000 st).opX 0 5 0) = .error .addressTranslation := by decide

theorem witness_CompareSetsOnlyTheConditionCode :
    (let s := mem 0x800 4 0x80000000 st
     s.readW (s.opX 0 0 0x800) = .ok 0x80000000 ∧ s.readH (s.opX 0 0 0x800) = .ok 0x8000 ∧ s.readB (s.opB 0 0x800) = .ok 0x80) ∧
    (let s := gr 5 0x3000 st
     s.readW (s.opX 0 5 0) = .error .addressTranslation ∧ s.readH (s.opX 0 5 1) = .error .specification ∧
       s.readB (s.opB 5 0) = .error .addressTranslation) := by decide

/-- All four bytes, and none, at the end of the last page of a program. -/
theorem witness_CompareUnderMaskAndTestUnderMask :
    (let s := gr 5 0x2FFC st; s.allows .read (s.opB 5 0) (15 : Mask).cpop.toNat = true) ∧
    (let s := gr 5 0x2FFF st; s.allows .read (s.opB 5 0) 1 = true ∧ s.byteAllowed .read (s.opB 5 0) 0 = true) := by decide

theorem witness_ConnectivesOfWords :
    st.readW (st.opX 0 0 0xFFC) = .ok 0 ∧ st.readW (st.opX 0 0 0xFFD) = .error .specification := by decide

theorem witness_ProductsAreExact :
    (14 : Reg).getLsbD 0 = false ∧ (mem 0x800 4 0x80000000 st).readW (st.opX 0 0 0x800) = .ok 0x80000000 ∧
      (mem 0x800 4 0x80000000 st).readH (st.opX 0 0 0x800) = .ok 0x8000 := by decide

/-- A zero divisor; the greatest and the least quotient that fit, and the next ones. -/
theorem witness_DivisionIsExact :
    (gr 6 0 st).getGr 6 = 0 ∧ (4 : Reg).getLsbD 0 = false ∧
    (let s := gr 4 0x3FFFFFFF (gr 5 0x7FFFFFFF (gr 6 0x7FFFFFFF st))
     (s.getPair 4).toInt = (2 ^ 31 - 1) * (s.getGr 6).toInt + 0x7FFFFFFE ∧ |(0x7FFFFFFE : Int)| < |(s.getGr 6).toInt| ∧
       0 ≤ (0x7FFFFFFE : Int) * (s.getPair 4).toInt) ∧
    (let s := gr 4 0xFFFFFFFF (gr 5 0x80000000 (gr 6 1 st))
     (s.getPair 4).toInt = -2 ^ 31 * (s.getGr 6).toInt + 0 ∧ |(0 : Int)| < |(s.getGr 6).toInt|) ∧
    (let s := gr 4 0 (gr 5 0x80000000 (gr 6 1 st))
     (s.getPair 4).toInt = 2 ^ 31 * (s.getGr 6).toInt + 0 ∧ 2 ^ 31 - 1 < (2 ^ 31 : Int)) ∧
    (let s := gr 4 0xFFFFFFFF (gr 5 0x7FFFFFFF (gr 6 1 st))
     (s.getPair 4).toInt = (-2 ^ 31 - 1) * (s.getGr 6).toInt + 0) := by decide

theorem witness_LoadsOfOneRegister :
    (mem 0x800 4 0x80000001 st).readW (st.opX 0 0 0x800) = .ok 0x80000001 ∧
      (mem 0x800 4 0x80000001 st).readH (st.opX 0 0 0x800) = .ok 0x8000 ∧
      (mem 0x800 4 0x80000001 st).readB (st.opX 0 0 0x803) = .ok 1 := by decide

/-- All four bytes at the end of storage, one byte, and no byte. -/
theorem witness_CharactersUnderMask :
    (let s := gr 5 0x2FFC st
     s.allows .read (s.opB 5 0) (15 : Mask).cpop.toNat = true ∧ s.allows .write (s.opB 5 0) (15 : Mask).cpop.toNat = true) ∧
    (let s := gr 5 0x2FFF st
     s.allows .read (s.opB 5 0) (if (0 : Mask) = 0 then 1 else 0) = true ∧ s.allows .read (s.opB 5 0) (1 : Mask).cpop.toNat = true) ∧
    (let s := gr 5 0x3000 st; s.allows .write (s.opB 5 0) (0 : Mask).cpop.toNat = true) := by decide

/-- One register, and all sixteen from 1 to 0. -/
theorem witness_LoadAndStoreMultiple :
    (1 = if (5 : Reg).toNat ≤ (5 : Reg).toNat then (5 : Reg).toNat - (5 : Reg).toNat + 1 else 0) ∧
    (16 = if (1 : Reg).toNat ≤ (0 : Reg).toNat then 0 else (0 : Reg).toNat + 17 - (1 : Reg).toNat) ∧ st.cfg.hasEsa = true ∧
    st.misaligned (st.opB 0 0xFC0) 4 = false ∧ st.allows .read (st.opB 0 0xFC0) (4 * 16) = true ∧
      st.allows .write (st.opB 0 0xFC0) (4 * 16) = true := by decide

theorem witness_StoresOfOneOperand :
    (6 : Reg).toNat ∈ [0, 2, 4, 6] ∧
    (let s := gr 5 0x2FFC st; s.misaligned (s.opX 0 5 0) 4 = false ∧ s.allows .write (s.opX 0 5 0) 4 = true) ∧
    (let s := gr 5 0x2FFE st; s.misaligned (s.opX 0 5 0) 2 = false ∧ s.allows .write (s.opX 0 5 0) 2 = true) ∧
    (let s := gr 5 0x2FFF st; s.misaligned (s.opX 0 5 0) 1 = false ∧ s.allows .write (s.opX 0 5 0) 1 = true) ∧
    (let s := gr 5 0x2FF8 st; s.misaligned (s.opX 0 5 0) 8 = false ∧ s.allows .write (s.opX 0 5 0) 8 = true) := by decide

theorem witness_UpdatesOfOneByte :
    (gr 5 0x2FFF st).allows .update ((gr 5 0x2FFF st).opB 5 0) 1 = true ∧
      ((mem 0x800 1 127 st).byteAt (st.opB 0 0x800) 0).toNat < 128 ∧ ¬ ((mem 0x800 1 128 st).byteAt (st.opB 0 0x800) 0).toNat < 128 := by
  decide

theorem witness_LogicalAndRightShifts :
    (14 : Reg).getLsbD 0 = false ∧ 63 = (st.addrx 0 0 63).toNat % 64 ∧ 0 = (st.addrx 0 0 64).toNat % 64 := by decide

/-- The least number shifted by 0, the first that does not fit on either side, of 32 and of 64 bits. -/
theorem witness_ArithmeticLeftShifts :
    (14 : Reg).getLsbD 0 = false ∧ 1 = (st.addrx 0 0 65).toNat % 64 ∧
    (let s := gr 1 0x3FFFFFFF st; (s.getGr 1).toInt * 2 ^ 1 = 2 ^ 31 - 2) ∧
    (let s := gr 1 0xC0000000 st; (s.getGr 1).toInt * 2 ^ 1 = -2 ^ 31) ∧
    (let s := gr 1 0x40000000 st; 2 ^ 31 - 1 < (s.getGr 1).toInt * 2 ^ 1) ∧
    (let s := gr 1 0xBFFFFFFF st; (s.getGr 1).toInt * 2 ^ 1 < -2 ^ 31) ∧
    (let s := gr 2 0xC0000000 st; (s.getPair 2).toInt * 2 ^ 1 = -2 ^ 63) ∧
    (let s := gr 2 0x40000000 st; 2 ^ 63 - 1 < (s.getPair 2).toInt * 2 ^ 1) := by decide

theorem witness_BranchAndLink :
    ∃ n : Nat → Word, n = fun len => trunc st.amode (st.pc + BitVec.ofNat 32 (if st.viaEx then 4 else len)) := ⟨_, rfl⟩

theorem witness_BranchAndSave : st.cfg.has31Bit = true ∧ true = ((gr 2 0x80000000 st).getGr 2).msb := by decide

/-- R3 odd and even. -/
theorem witness_ConditionalAndCountingBranches :
    (2 : Word) = (if (15 : Reg).getLsbD 0 then (gr 15 2 st).getGr 15 else 0) ∧
      (2 : Word) = (if (14 : Reg).getLsbD 0 then 0 else (gr 15 2 st).getGr (14 + 1)) := by decide

theorem witness_CompareAndSwap :
    (let s := gr 1 5 (mem 0xFFC 4 5 st)
     (s.addrx 0 0 0xFFC).toNat % 4 = 0 ∧ s.allows .update (s.opB 0 0xFFC) 4 = true ∧
       s.value (s.opB 0 0xFFC) 4 = (s.getGr 1).toNat ∧ s.value (s.opB 0 0xFFC) 4 ≠ (s.getGr 2).toNat) ∧
    (let s := gr 3 5 (mem 0xFF8 8 5 st)
     (2 : Reg).getLsbD 0 = false ∧ (s.addrx 0 0 0xFF8).toNat % 8 = 0 ∧ s.allows .update (s.opB 0 0xFF8) 8 = true ∧
       s.value (s.opB 0 0xFF8) 8 = (s.getPair 2).toNat ∧ s.value (s.opB 0 0xFF8) 8 ≠ (s.getPair 4).toNat) := by decide

theorem witness_CallsAndClock :
    (15 : Byte).toNat ≤ 15 ∧ 15 < (16 : Byte).toNat ∧ st.misaligned (st.opB 0 0xFF8) 8 = false ∧
      st.allows .write (st.opB 0 0xFF8) 8 = true ∧ (withHost .service).status = .service ∧
      (withHost .ended).status = .ended := by decide

/-- The targets LR, EX, and MVC with a length that EX supplies. -/
theorem witness_ExecuteRunsTheModifiedTarget :
    st.viaEx = false ∧ (st.addrx 0 0 0x901).getLsbD 0 = true ∧
    (let s := gr 5 0x3000 st; (s.addrx 0 5 0).getLsbD 0 = false ∧ s.allows .read (s.code (s.addrx 0 5 0)) 2 = false) ∧
    (let s := gr 5 0x2FFE (mem 0x2FFE 2 0x58FF st)
     (s.addrx 0 5 0).getLsbD 0 = false ∧ s.allows .read (s.code (s.addrx 0 5 0)) 2 = true ∧
       s.allows .read (s.code (s.addrx 0 5 0)) (ilen (s.byteAt (s.code (s.addrx 0 5 0)) 0)) = false) ∧
    decode (0x00 :: 0xFF :: []) = .error (.unlistedOpcode 0) ∧
    (decode (0xB2 :: 0x19 :: [0x01, 0x00]) = .ok (.sac 0 0x100, []) ∧
      ∃ f, exec (.sac 0 0x100) { st with viaEx := true } = .refused f) ∧
    (let s := mem 0x900 2 0x1800 st; s.fetchAt (s.addrx 0 0 0x900) = .ok [0x18, 0x00]) ∧
    (let s := mem 0x900 4 0x44000900 st; s.fetchAt (s.addrx 0 0 0x900) = .ok [0x44, 0x00, 0x09, 0x00]) ∧
    (let s := gr 5 3 (mem 0x900 6 0xD20008000810 st)
     s.fetchAt (s.addrx 0 0 0x900) = .ok (0xD2 :: 0x00 :: [0x08, 0x00, 0x08, 0x10]) ∧
       (3 : Byte) = (if (5 : Reg) = 0 then 0x00 else 0x00 ||| BitVec.ofNat 8 (s.getGr 5).toNat) ∧
       decode (0xD2 :: 3 :: [0x08, 0x00, 0x08, 0x10]) = .ok (.mvc 4 0 0x800 0 0x810, []) ∧
       (∀ q1 q2 q3 q4, Instr.mvc 4 0 0x800 0 0x810 ≠ .ex q1 q2 q3 q4) ∧
       ∃ t, exec (.mvc 4 0 0x800 0 0x810) { s with viaEx := true } = .next t) :=
  ⟨by decide, by decide, by decide, by decide, by decide, ⟨by decide, _, rfl⟩, by decide, by decide, by decide, by decide, by decide,
    nofun, _, rfl⟩

set_option maxRecDepth 4000 in
/-- A field of one byte, the longest field, and operands that overlap by one byte. -/
theorem witness_MovesAndConnectivesByteByByte :
    1 ≤ 256 ∧ st.allows .read (st.opB 0 0x800) 1 = true ∧ st.allows .write (st.opB 0 0x801) 1 = true ∧
      st.allows .update (st.opB 0 0x801) 1 = true ∧ (st.opB 0 0x801).key 0 = (st.opB 0 0x800).key 1 ∧
      st.allows .read (st.opB 0 0xF00) 256 = true ∧ st.allows .update (st.opB 0 0xE00) 256 = true ∧
      st.allows .write (st.opB 0 0xE00) 256 = true := by decide

/-- Equal up to the end, and unequal at the second byte on either side; a second byte that cannot be read. -/
theorem witness_ComparesAndTestsOfFields :
    (∀ i < 2, st.byteAllowed .read (st.opB 0 0x800) i = true ∧ st.byteAllowed .read (st.opB 0 0x810) i = true ∧
      st.byteAt (st.opB 0 0x800) i = st.byteAt (st.opB 0 0x810) i) ∧
    (let s := mem 0x801 1 1 st
     (∀ i < 1, s.byteAllowed .read (s.opB 0 0x800) i = true ∧ s.byteAllowed .read (s.opB 0 0x810) i = true ∧
       s.byteAt (s.opB 0 0x800) i = s.byteAt (s.opB 0 0x810) i) ∧
     s.byteAllowed .read (s.opB 0 0x800) 1 = true ∧ s.byteAllowed .read (s.opB 0 0x810) 1 = true ∧
     (s.byteAt (s.opB 0 0x810) 1).toNat < (s.byteAt (s.opB 0 0x800) 1).toNat) ∧
    (let s := gr 5 0x2FFF st
     (∀ i < 1, s.byteAllowed .read (s.opB 5 0) i = true ∧ s.byteAllowed .read (s.opB 5 0) (s.byteAt (s.opB 5 0) i).toNat = true ∧
       s.byteAt (s.opB 5 0) (s.byteAt (s.opB 5 0) i).toNat = 0) ∧ s.byteAllowed .read (s.opB 5 0) 1 = false) ∧
    (let s := mem 0x801 1 5 (mem 0x815 1 7 st)
     (∀ i < 1, s.byteAllowed .read (s.opB 0 0x800) i = true ∧ s.byteAllowed .read (s.opB 0 0x810) (s.byteAt (s.opB 0 0x800) i).toNat = true ∧
       s.byteAt (s.opB 0 0x810) (s.byteAt (s.opB 0 0x800) i).toNat = 0) ∧
     s.byteAllowed .read (s.opB 0 0x810) (s.byteAt (s.opB 0 0x800) 1).toNat = true ∧
       s.byteAt (s.opB 0 0x810) (s.byteAt (s.opB 0 0x800) 1).toNat ≠ 0) := by decide

/-- A table that does not meet the field, and one that begins in it. -/
theorem witness_TranslateLooksUpEveryByte :
    st.allows .update (st.opB 0 0x800) 2 = true ∧
    (∀ i < 2, st.byteAllowed .read (st.opB 0 0x900) (st.byteAt (st.opB 0 0x800) i).toNat = true) ∧
    (∀ i < 2, ∀ j < i, (st.opB 0 0x800).key j ≠ (st.opB 0 0x900).key (st.byteAt (st.opB 0 0x800) i).toNat) ∧
    (st.opB 0 0x800).key 0 = (st.opB 0 0x800).key (st.byteAt (st.opB 0 0x800) 1).toNat := by decide

set_option maxRecDepth 4000 in
theorem witness_MoveOffsetPackAndUnpack :
    st.allows .update (st.opB 0 0xFF0) 16 = true ∧ st.allows .write (st.opB 0 0xFF0) 16 = true ∧
      st.allows .read (st.opB 0 0xFE0) 16 = true ∧ (∀ i < 16, ∀ j < 16, (st.opB 0 0xFF0).key i ≠ (st.opB 0 0xFE0).key j) ∧
      (st.opB 0 0xFF0).key (4 - 1 - 2) = (st.opB 0 0xFF0).key (4 - 1 - 2) ∧ 2 < 2 * 2 - 1 := by decide

/-- Destructive by one byte; operand 1 just behind operand 2; lengths of 0 and a pad byte. -/
theorem witness_MoveLong :
    (4 : Reg).getLsbD 0 = false ∧ (10 : Reg).getLsbD 0 = false ∧
    (let s := gr 4 0x803 (gr 5 4 (gr 10 0x800 (gr 11 4 st)))
     4 = (s.getGr 5).toNat % 2 ^ 24 ∧ 4 = (s.getGr 11).toNat % 2 ^ 24 ∧ (s.opR 10).addr.toNat < (s.opR 4).addr.toNat ∧
       (s.opR 4).addr.toNat < (s.opR 10).addr.toNat + 4) ∧
    (let s := gr 4 0x804 (gr 5 6 (gr 10 0x800 (gr 11 0x5C000004 st)))
     6 = (s.getGr 5).toNat % 2 ^ 24 ∧ 4 = (s.getGr 11).toNat % 2 ^ 24 ∧
       (s.opR 10).addr.toNat + 4 ≤ (s.opR 4).addr.toNat ∧ s.allows .write (s.opR 4) 6 = true ∧ s.allows .read (s.opR 10) 4 = true ∧
       ∀ i < 4, ∀ j < i, (s.opR 4).key j ≠ (s.opR 10).key i) ∧
    (st.opR 4).addr.toNat ≤ (st.opR 10).addr.toNat ∧ st.allows .write (st.opR 4) 0 = true := by decide

/-- Unequal at the first pad byte, and equal to the end of the longer operand. -/
theorem witness_CompareLong :
    (let s := gr 4 0x800 (gr 5 3 (gr 10 0x810 (gr 11 0x40000002 st)))
     3 = (s.getGr 5).toNat % 2 ^ 24 ∧ 2 = (s.getGr 11).toNat % 2 ^ 24 ∧ s.allows .read (s.opR 4) (min (2 + 1) 3) = true ∧
       s.allows .read (s.opR 10) (min (2 + 1) 2) = true ∧ 2 ≤ max 3 2 ∧
       (∀ i < 2, s.byteAt (s.opR 4) i = s.byteAt (s.opR 10) i) ∧ s.byteAt (s.opR 4) 2 ≠ (s.getGr 11).extractLsb' 24 8) ∧
    (let s := gr 4 0x800 (gr 5 3 (gr 10 0x810 (gr 11 2 st)))
     3 ≤ max 3 2 ∧ s.allows .read (s.opR 4) (min (3 + 1) 3) = true ∧ s.allows .read (s.opR 10) (min (3 + 1) 2) = true ∧
       (∀ i < 2, s.byteAt (s.opR 4) i = s.byteAt (s.opR 10) i) ∧ s.byteAt (s.opR 4) 2 = (s.getGr 11).extractLsb' 24 8) := by decide

/-- The greatest sum of one digit that fits, and the next one; ZAP over its own operand. -/
theorem witness_DecimalSums :
    (let s := mem 0x800 1 0x8C (mem 0x810 1 0x1C st)
     s.allows .read (s.opB 0 0x810) 1 = true ∧ decValid 1 (s.value (s.opB 0 0x810) 1) = true ∧
       (s.allows .update (s.opB 0 0x800) 1 && !badOverlap (s.opB 0 0x800) 1 (s.opB 0 0x810) 1 &&
         decValid 1 (s.value (s.opB 0 0x800) 1)) = true ∧
       (decVal 1 (s.value (s.opB 0 0x800) 1) + decVal 1 (s.value (s.opB 0 0x810) 1)).natAbs < 10 ^ (2 * 1 - 1) ∧
       (s.allows .write (s.opB 0 0x800) 1 && !zapOpen (s.opB 0 0x800) 1 (s.opB 0 0x800) 1) = true) ∧
    (let s := mem 0x800 1 0x9C (mem 0x810 1 0x1C st)
     10 ^ (2 * 1 - 1) ≤ (decVal 1 (s.value (s.opB 0 0x800) 1) + decVal 1 (s.value (s.opB 0 0x810) 1)).natAbs) := by decide

/-- Operand 1 ends one byte to the right of operand 2; the digits fit, and do not. -/
theorem witness_ZapWithAnOpenOverlapCompletes :
    (let s := mem 0x800 2 0x001C st
     s.allows .write (s.opB 0 0x801) 2 = true ∧ s.allows .read (s.opB 0 0x800) 2 = true ∧
       decValid 2 (s.value (s.opB 0 0x800) 2) = true ∧ zapOpen (s.opB 0 0x801) 2 (s.opB 0 0x800) 2 = true ∧
       decMag 2 (s.value (s.opB 0 0x800) 2) < 10 ^ (2 * 2 - 1)) ∧
    (let s := withPm 15 (mem 0x800 3 0x01000C st)
     s.allows .write (s.opB 0 0x802) 2 = true ∧ s.allows .read (s.opB 0 0x800) 3 = true ∧
       decValid 3 (s.value (s.opB 0 0x800) 3) = true ∧ zapOpen (s.opB 0 0x802) 2 (s.opB 0 0x800) 3 = true ∧
       10 ^ (2 * 2 - 1) ≤ decMag 3 (s.value (s.opB 0 0x800) 3) ∧ s.pm.getMsbD 1 = true) := by decide

/-- Correct operands; a wrong overlap; a wrong digit; a wrong sign; the rounding digit 10. -/
theorem witness_CompareDecimalAndDataErrors :
    (let s := mem 0x800 1 0x0C (mem 0x810 1 0x0D st)
     s.allows .read (s.opB 0 0x800) 1 = true ∧ s.allows .read (s.opB 0 0x810) 1 = true ∧
       badOverlap (s.opB 0 0x800) 1 (s.opB 0 0x810) 1 = false ∧ decValid 1 (s.value (s.opB 0 0x800) 1) = true ∧
       decValid 1 (s.value (s.opB 0 0x810) 1) = true) ∧
    badOverlap (st.opB 0 0x800) 2 (st.opB 0 0x801) 2 = true ∧
    decValid 1 ((mem 0x800 1 0xAC st).value (st.opB 0 0x800) 1) = false ∧
    decValid 1 ((mem 0x800 1 0x99 st).value (st.opB 0 0x800) 1) = false ∧ 9 < (10 : Nibble).toNat ∧
    st.allows .update (st.opB 0 0x800) 16 = true ∧ st.allows .write (st.opB 0 0x800) 16 = true := by decide

/-- Just enough zero bytes and one too few; the greatest quotient that fits, the next one, and a zero divisor. -/
theorem witness_DecimalProductAndQuotient :
    (let s := mem 0x800 2 0x009C (mem 0x810 1 0x1C st)
     s.allows .update (s.opB 0 0x800) 2 = true ∧ s.allows .read (s.opB 0 0x810) 1 = true ∧
       badOverlap (s.opB 0 0x800) 2 (s.opB 0 0x810) 1 = false ∧ decValid 2 (s.value (s.opB 0 0x800) 2) = true ∧
       decValid 1 (s.value (s.opB 0 0x810) 1) = true ∧ s.value (s.opB 0 0x800) 2 / 256 ^ (2 - 1) = 0 ∧
       decMag 1 (s.value (s.opB 0 0x810) 1) ≠ 0 ∧
       decMag 2 (s.value (s.opB 0 0x800) 2) / decMag 1 (s.value (s.opB 0 0x810) 1) < 10 ^ (2 * (2 - 1) - 1)) ∧
    (let s := mem 0x800 2 0x010C (mem 0x810 1 0x1C st)
     s.value (s.opB 0 0x800) 2 / 256 ^ (2 - 1) ≠ 0 ∧
       10 ^ (2 * (2 - 1) - 1) ≤ decMag 2 (s.value (s.opB 0 0x800) 2) / decMag 1 (s.value (s.opB 0 0x810) 1)) ∧
    decMag 1 ((mem 0x810 1 0x0C st).value (st.opB 0 0x810) 1) = 0 := by decide

/-- Left by 31, right by 32 and by 1, each with a sum that fits; left by 1 with one that does not. -/
theorem witness_ShiftAndRoundDecimal :
    (let s := mem 0x800 2 0x099C st
     s.allows .update (s.opB 0 0x800) 2 = true ∧ decValid 2 (s.value (s.opB 0 0x800) 2) = true ∧ (9 : Nibble).toNat ≤ 9 ∧
       99 = decMag 2 (s.value (s.opB 0 0x800) 2) ∧ 1 = (s.addrx 0 0 65).toNat % 64 ∧ 32 = (s.addrx 0 0 32).toNat % 64 ∧
       99 * 10 ^ 1 < 10 ^ (2 * 2 - 1) ∧ 10 ^ (2 * 2 - 1) ≤ 99 * 10 ^ 2 ∧ (99 + 9 * 10 ^ (63 - 32)) / 10 ^ (64 - 32) < 10 ^ (2 * 2 - 1)) ∧
    (0 * 10 ^ 31 < 10 ^ (2 * 2 - 1)) := by decide

/-- A number of one byte and its pattern of two, and a number of two bytes whose first digit is the last one. -/
theorem witness_EditOneNumber :
    (let s := mem 0x800 2 0x4020 (mem 0x810 1 0x5C st)
     decValid 1 (s.value (s.opB 0 0x810) 1) = true ∧ s.allows .update (s.opB 0 0x800) (2 * 1) = true ∧
       s.allows .read (s.opB 0 0x810) 1 = true ∧ (∀ i < 2 * 1, ∀ j < 1, (s.opB 0 0x800).key i ≠ (s.opB 0 0x810).key j) ∧
       (∀ i < 2, 1 ≤ i → s.byteAt (s.opB 0 0x800) i = 0x20) ∧ s.byteAt (s.opB 0 0x800) 0 ∉ [0x20, 0x21, 0x22] ∧
       s.value (s.opB 0 0x810) 1 / 16 ^ (2 * 1 - 1) ≠ 0 ∧ s.value (s.opB 0 0x810) 1 / 16 ^ (2 * 1 - 1) < 16) ∧
    (let s := mem 0x810 1 0x0D st; decMag 1 (s.value (s.opB 0 0x810) 1) = 0) := by decide

/-- A pattern with a number, one with a wrong digit, and one that shares a byte with its source. -/
theorem witness_EditOfAnyPattern :
    st.allows .update (st.opB 0 0x800) 2 = true ∧
    editRows (mem 0x800 2 0x4020 (mem 0x810 1 0x5C st)) (loc 0x800) (loc 0x810) 2 (fun i => if i < 2 then 0 else 2) (fun _ => false)
      (fun i => 2 ≤ i) = true ∧
    (∀ i < 2, ∀ k < (2 + 1) / 2, (loc 0x800).key i ≠ (loc 0x810).key k) ∧
    (let s := mem 0x800 2 0x4020 (mem 0x810 1 0xA1 st)
     editRows s (loc 0x800) (loc 0x810) 1 (fun _ => 0) (fun _ => false) (fun _ => false) = true ∧ 1 < 2 ∧ s.byteAt (loc 0x800) 1 = 0x20 ∧
       s.byteAllowed .read (loc 0x810) 0 = true ∧ 9 < (hiNibble (s.byteAt (loc 0x810) 0)).toNat) ∧
    st.byteAllowed .read (loc 0x3000) 0 = false ∧
    (let s := mem 0x800 2 0x4020 (mem 0x810 1 0x5C st)
     ∃ e, s.edit (s.opB 0 0x800) (s.opB 0 0x810) 2 = .ok e ∧ overlaps (s.opB 0 0x800) 2 (s.opB 0 0x810) e.k = false) ∧
    (let s := mem 0x800 2 0x4020 (mem 0x810 1 0xA1 st); s.edit (s.opB 0 0x800) (s.opB 0 0x810) 2 = .error .data) ∧
    (let s := mem 0x800 3 0x40205C st
     ∃ e, s.edit (s.opB 0 0x800) (s.opB 0 0x801) 2 = .ok e ∧ overlaps (s.opB 0 0x800) 2 (s.opB 0 0x801) e.k = true) :=
  ⟨by decide, by decide, by decide, by decide, by decide, ⟨_, rfl, by decide⟩, by decide, ⟨_, rfl, by decide⟩⟩

/-- The greatest and the least number that fit, the next ones, and a wrong sign. -/
theorem witness_ConvertBinaryAndDecimal :
    (let s := mem 0x800 8 0x2147483647C st
     s.readAligned (s.opX 0 0 0x800) 8 = .ok 0x2147483647C ∧ decValid 8 0x2147483647C = true ∧ decVal 8 0x2147483647C = 2 ^ 31 - 1) ∧
    decValid 8 0x2147483648D = true ∧ decVal 8 0x2147483648D = -2 ^ 31 ∧ 2 ^ 31 - 1 < decVal 8 0x2147483648C ∧
    decVal 8 0x2147483649D < -2 ^ 31 ∧ decValid 8 9 = false ∧
    (let s := mem 0x800 8 9 st; s.readAligned (s.opX 0 0 0x800) 8 = .ok 9) ∧
    st.misaligned (st.opX 0 0 0xFF8) 8 = false ∧ st.allows .write (st.opX 0 0 0xFF8) 8 = true := by decide

/-- Operands that can be read and registers that exist; a sum without an exception, and one with each kind. -/
theorem witness_FloatingAddAndSubtract :
    (∃ cc : Option FNum → BitVec 2, ∀ v, cc v = match v with
      | none => 0
      | some r => if r.man = 0 then 0 else if r.neg then 1 else 2) ∧
    (6 : Reg).toNat ∈ [0, 2, 4, 6] ∧ (4 : Reg).toNat ∈ [0, 4] ∧ st.readW (st.opX 0 0 0x800) = .ok 0 ∧
      st.readD (st.opX 0 0 0x800) = .ok 0 ∧
      (addSub 6 false true true true (unpackS 0x41100000) (unpackS 0x41100000)).exc = none ∧
      (addSub 6 false true true true (unpackS 0x7FF00000) (unpackS 0x7F100000)).exc = some .exponentOverflow ∧
      (addSub 6 true true true true (unpackS 0x41100000) (unpackS 0x41100000)).exc = some .significance ∧
      (addSub 6 true true true true (unpackS 0x00100000) (unpackS 0x000FFFFF)).exc = some .exponentUnderflow :=
  ⟨⟨_, fun _ => rfl⟩, by decide⟩

theorem witness_FloatingCompareOrdersTheValues :
    (6 : Reg).toNat ∈ [0, 2, 4, 6] ∧ st.readW (st.opX 0 0 0x800) = .ok 0 ∧ st.readD (st.opX 0 0 0x800) = .ok 0 ∧
      16 ^ (6 - 1) ≤ (unpackS 0x41100000).man ∧ (unpackS 0x41100000).chr = (unpackS 0x41000001).chr := by decide

/-- Each kind of operand; a product without an exception and with each; a divisor without mantissa. -/
theorem witness_FloatingProductsQuotientsAndRounding :
    (6 : Reg).toNat ∈ [0, 2, 4, 6] ∧ (4 : Reg).toNat ∈ [0, 4] ∧ st.cfg.has31Bit = true ∧
      (mem 0x800 4 0x41200000 st).readW (st.opX 0 0 0x800) = .ok 0x41200000 ∧ (unpackS 0x41200000).man ≠ 0 ∧
      (mem 0x800 4 0x41200000 st).readD (st.opX 0 0 0x800) = .ok 0x4120000000000000 ∧ (unpackL 0x4120000000000000).man ≠ 0 ∧
      (multiply 6 14 true (unpackS 0x41200000) (unpackS 0x41200000)).exc = none ∧
      (multiply 6 14 true (unpackS 0x7F100000) (unpackS 0x42100000)).exc = some .exponentOverflow ∧
      (divide 6 true (unpackS 0x01100000) (unpackS 0x7F100000)).exc = some .exponentUnderflow ∧
      st.readW (st.opX 0 0 0x800) = .ok 0 ∧ (unpackS 0).man = 0 ∧ (unpackL 0).man = 0 ∧ (unpackX (st.getExt 4)).man = 0 := by decide

theorem witness_FloatingLoads :
    (0 : Reg).toNat ∈ [0, 2, 4, 6] ∧ (6 : Reg).toNat ∈ [0, 2, 4, 6] ∧ st.readW (st.opX 0 0 0xFFC) = .ok 0 ∧
      st.readD (st.opX 0 0 0xFF8) = .ok 0 := by decide

/-- 1.5 + 0.5, normalized and not, at the greatest mantissa and at the ends of the characteristic. -/
theorem witness_FloatingSumsAreTruncated :
    (∀ x y : FNum, x = { neg := false, chr := 127, man := 0x180000 } → y = { neg := false, chr := 127, man := 0x080000 } →
      addSub 6 false true true true x y = { value := some { neg := false, chr := 127, man := 0x200000 }, exc := none } ∧
      ((x.man * 16 / 16 ^ (y.chr - x.chr).toNat : Nat) : ℤ) + ((y.man * 16 / 16 ^ (x.chr - y.chr).toNat : Nat) : ℤ) ≠ 0 ∧
      ((x.man * 16 / 16 ^ (y.chr - x.chr).toNat : Nat) : ℤ) - ((x.man * 16 / 16 ^ (x.chr - y.chr).toNat : Nat) : ℤ) = 0) ∧
    addSub 6 true false false false { neg := false, chr := 0, man := 0xFFFFFF } { neg := true, chr := 0, man := 0xFFFFFF } =
      { value := some { neg := false, chr := 1, man := 0x1FFFFF }, exc := none } ∧
    addSub 6 false false true true { neg := false, chr := 70, man := 1 } { neg := true, chr := 70, man := 1 } =
      { value := some { neg := false, chr := 70, man := 0 }, exc := some .significance } := by
  refine ⟨?_, by decide, by decide⟩
  rintro x y rfl rfl
  decide

theorem witness_FloatingProductsAreTruncatedAndRoundingIsToNearest :
    multiply 6 14 true { neg := false, chr := 65, man := 0xFFFFFF } { neg := true, chr := 65, man := 1 } =
      { value := some { neg := true, chr := 60, man := 0xFFFFFF00000000 }, exc := none } ∧
    divide 6 true { neg := false, chr := 65, man := 0x100000 } { neg := false, chr := 65, man := 0x300000 } =
      { value := some { neg := false, chr := 64, man := 0x555555 }, exc := none } ∧
    halve 6 true { neg := false, chr := 65, man := 0x100000 } =
      { value := some { neg := false, chr := 64, man := 0x800000 }, exc := none } ∧
    roundTo 14 6 { neg := false, chr := 126, man := 0xFFFFFF80000000 } =
      { value := some { neg := false, chr := 127, man := 0x100000 }, exc := none } ∧
    multiply 6 14 true { neg := false, chr := 65, man := 0 } { neg := true, chr := 65, man := 1 } = { value := none, exc := none } ∧
    roundTo 14 6 { neg := false, chr := 127, man := 0xFFFFFF80000000 } =
      { value := some { neg := false, chr := 0, man := 0x100000 }, exc := some .exponentOverflow } := by decide

/-- The three kinds of ALET for TAR and LAE; an ALET at either side of 2^25; a code that SAC does not know. -/
theorem witness_AccessRegistersAndModes :
    st.cfg.hasEsa = true ∧ st.getAr 1 = 0 ∧ st.asc = false ∧ (withAsc st).asc = true ∧
    (let s := ar 1 9 st; s.getAr 1 ≠ 0 ∧ ∀ e ∈ s.accessList, e.alet ≠ s.getAr 1) ∧
    (let s := ar 1 8 st
     s.getAr 1 ≠ 0 ∧ s.accessList = [{ alet := 7, space := 1, class2 := true }] ++ { alet := 8, space := 1, class2 := false } :: [] ∧
       ∀ a ∈ [({ alet := 7, space := 1, class2 := true } : AccessEntry)], a.alet ≠ s.getAr 1) ∧
    ((ar 5 0x1FFFFFF st).getAr 5).toNat < 2 ^ 25 ∧ 2 ^ 25 ≤ ((ar 5 0x2000000 st).getAr 5).toNat ∧
    (let c := BitVec.ofNat 4 ((0 + (0x300 : Disp).toNat) / 2 ^ 8); c ≠ 0 ∧ c ≠ (2 : Nibble)) := by decide

theorem witness_SetAddressSpaceControl :
    st.cfg.hasEsa = true ∧ 0 = (0 + (0x0FF : Disp).toNat) / 2 ^ 8 % 2 ^ 4 ∧ 2 = (0 + (0x2FF : Disp).toNat) / 2 ^ 8 % 2 ^ 4 := by decide

/-- Operands off a boundary, without a page, and in a page for reading only. -/
theorem witness_FailingAccessSuppresses :
    (let s := gr 5 0x3000 st
     s.readW (s.opX 0 5 0) = .error .addressTranslation ∧ s.readW (s.opX 0 5 2) = .error .specification ∧
       s.readH (s.opX 0 5 1) = .error .specification ∧ s.readD (s.opX 0 5 4) = .error .specification ∧
       s.byteAllowed .read (s.opX 0 5 0) 0 = false ∧ s.byteAllowed .read (s.opB 5 0) 0 = false ∧
       s.misaligned (s.opX 5 0 0) 8 = false ∧ s.allows .write (s.opX 5 0 0) 8 = false ∧
       s.allows .write (s.opB 5 0) 1 = false ∧ s.allows .read (s.opB 5 0) 1 = false ∧
       (s.addrx 0 5 0).toNat % 8 = 0 ∧ s.allows .update (s.opB 5 0) 8 = false ∧
       s.byteAllowed .read (s.opB 5 0) (s.byteAt (s.opB 0 0) 0).toNat = false) ∧
    (let s : State := { st with pages := [{ space := 0, page := 0, readable := true, writable := false }] }
     s.allows .read (s.opB 0 0) 1 = true ∧ s.allows .write (s.opB 0 0) 1 = false ∧ s.allows .update (s.opB 0 0) 1 = false) ∧
    (let s := gr 5 0x2FFF st
     s.allows .read (s.opB 5 0) 2 = false ∧ s.allows .update (s.opB 5 0) 2 = false ∧
       s.allows .read (s.opB 5 0) (if (3 : Mask) = 0 then 1 else (3 : Mask).cpop.toNat) = false ∧
       s.allows .write (s.opB 5 0) (3 : Mask).cpop.toNat = false ∧ s.allows .read (s.opB 5 0xFFD) 4 = false) ∧
    (let s := gr 5 0x2FFC st; s.misaligned (s.opB 5 0) 4 = false ∧ s.allows .read (s.opB 5 0) (4 * 2) = false) ∧
    (st.addrx 0 0 0x802).toNat % 4 ≠ 0 ∧ st.misaligned (st.opB 0 0x802) 4 = true ∧
    (let s := gr 2 0x2FFE (gr 3 4 (gr 4 0x2FFF (gr 5 2 st)))
     (s.opR 2).addr.toNat ≤ (s.opR 4).addr.toNat ∧ (s.getGr (2 + 1)).toNat % 2 ^ 24 = 4 ∧ (s.getGr (4 + 1)).toNat % 2 ^ 24 = 2 ∧
       s.byteAllowed .write (s.opR 2) 0 = true ∧ s.byteAllowed .read (s.opR 4) 0 = true ∧
       s.byteAt (s.opR 2) 0 = s.byteAt (s.opR 4) 0 ∧ s.byteAllowed .read (s.opR 4) 1 = false) := by decide

/-- The numbers and lengths next to those that are accepted, and a CPU of each lack. -/
theorem witness_WrongFieldsAndMissingInstructionsInterrupt :
    (15 : Reg).getLsbD 0 = true ∧ (1 : Reg).toNat ∉ [0, 2, 4, 6] ∧ (8 : Reg).toNat ∉ [0, 2, 4, 6] ∧ (2 : Reg).toNat ∉ [0, 4] ∧
      (6 : Reg).toNat ∉ [0, 4] ∧ st.cfg.has31Bit = true ∧ (8 < 9 ∨ 16 ≤ 9) ∧ (8 < 8 ∨ 8 ≤ 8) ∧
      ({ st with cfg := { st.cfg with hasEsa := false } } : State).cfg.hasEsa = false ∧
      ({ st with cfg := { st.cfg with has31Bit := false } } : State).cfg.has31Bit = false := by decide

/-! ## One word of every instruction -/

theorem test_decode_spm : decodeTableWord 16 0x0410 = some (.spm 1) := by decide
theorem test_decode_balr : decodeTableWord 16 0x0512 = some (.balr 1 2) := by decide
theorem test_decode_bctr : decodeTableWord 16 0x0612 = some (.bctr 1 2) := by decide
theorem test_decode_bcr : decodeTableWord 16 0x0712 = some (.bcr 1 2) := by decide
theorem test_decode_svc : decodeTableWord 16 0x0AF1 = some (.svc 0xF1) := by decide
theorem test_decode_bsm : decodeTableWord 16 0x0B12 = some (.bsm 1 2) := by decide
theorem test_decode_bassm : decodeTableWord 16 0x0C12 = some (.bassm 1 2) := by decide
theorem test_decode_basr : decodeTableWord 16 0x0D12 = some (.basr 1 2) := by decide
theorem test_decode_mvcl : decodeTableWord 16 0x0E12 = some (.mvcl 1 2) := by decide
theorem test_decode_clcl : decodeTableWord 16 0x0F12 = some (.clcl 1 2) := by decide
theorem test_decode_lpr : decodeTableWord 16 0x1012 = some (.lpr 1 2) := by decide
theorem test_decode_lnr : decodeTableWord 16 0x1112 = some (.lnr 1 2) := by decide
theorem test_decode_ltr : decodeTableWord 16 0x1212 = some (.ltr 1 2) := by decide
theorem test_decode_lcr : decodeTableWord 16 0x1312 = some (.lcr 1 2) := by decide
theorem test_decode_nr : decodeTableWord 16 0x1412 = some (.nr 1 2) := by decide
theorem test_decode_clr : decodeTableWord 16 0x1512 = some (.clr 1 2) := by decide
theorem test_decode_or : decodeTableWord 16 0x1612 = some (.or 1 2) := by decide
theorem test_decode_xr : decodeTableWord 16 0x1712 = some (.xr 1 2) := by decide
theorem test_decode_lr : decodeTableWord 16 0x1812 = some (.lr 1 2) := by decide
theorem test_decode_cr : decodeTableWord 16 0x1912 = some (.cr 1 2) := by decide
theorem test_decode_ar : decodeTableWord 16 0x1A12 = some (.ar 1 2) := by decide
theorem test_decode_sr : decodeTableWord 16 0x1B12 = some (.sr 1 2) := by decide
theorem test_decode_mr : decodeTableWord 16 0x1C12 = some (.mr 1 2) := by decide
theorem test_decode_dr : decodeTableWord 16 0x1D12 = some (.dr 1 2) := by decide
theorem test_decode_alr : decodeTableWord 16 0x1E12 = some (.alr 1 2) := by decide
theorem test_decode_slr : decodeTableWord 16 0x1F12 = some (.slr 1 2) := by decide
theorem test_decode_lpdr : decodeTableWord 16 0x2012 = some (.lpdr 1 2) := by decide
theorem test_decode_lndr : decodeTableWord 16 0x2112 = some (.lndr 1 2) := by decide
theorem test_decode_ltdr : decodeTableWord 16 0x2212 = some (.ltdr 1 2) := by decide
theorem test_decode_lcdr : decodeTableWord 16 0x2312 = some (.lcdr 1 2) := by decide
theorem test_decode_hdr : decodeTableWord 16 0x2412 = some (.hdr 1 2) := by decide
theorem test_decode_lrdr : decodeTableWord 16 0x2512 = some (.lrdr 1 2) := by decide
theorem test_decode_mxr : decodeTableWord 16 0x2612 = some (.mxr 1 2) := by decide
theorem test_decode_mxdr : decodeTableWord 16 0x2712 = some (.mxdr 1 2) := by decide
theorem test_decode_ldr : decodeTableWord 16 0x2812 = some (.ldr 1 2) := by decide
theorem test_decode_cdr : decodeTableWord 16 0x2912 = some (.cdr 1 2) := by decide
theorem test_decode_adr : decodeTableWord 16 0x2A12 = some (.adr 1 2) := by decide
theorem test_decode_sdr : decodeTableWord 16 0x2B12 = some (.sdr 1 2) := by decide
theorem test_decode_mdr : decodeTableWord 16 0x2C12 = some (.mdr 1 2) := by decide
theorem test_decode_ddr : decodeTableWord 16 0x2D12 = some (.ddr 1 2) := by decide
theorem test_decode_awr : decodeTableWord 16 0x2E12 = some (.awr 1 2) := by decide
theorem test_decode_swr : decodeTableWord 16 0x2F12 = some (.swr 1 2) := by decide
theorem test_decode_lper : decodeTableWord 16 0x3012 = some (.lper 1 2) := by decide
theorem test_decode_lner : decodeTableWord 16 0x3112 = some (.lner 1 2) := by decide
theorem test_decode_lter : decodeTableWord 16 0x3212 = some (.lter 1 2) := by decide
theorem test_decode_lcer : decodeTableWord 16 0x3312 = some (.lcer 1 2) := by decide
theorem test_decode_her : decodeTableWord 16 0x3412 = some (.her 1 2) := by decide
theorem test_decode_lrer : decodeTableWord 16 0x3512 = some (.lrer 1 2) := by decide
theorem test_decode_axr : decodeTableWord 16 0x3612 = some (.axr 1 2) := by decide
theorem test_decode_sxr : decodeTableWord 16 0x3712 = some (.sxr 1 2) := by decide
theorem test_decode_ler : decodeTableWord 16 0x3812 = some (.ler 1 2) := by decide
theorem test_decode_cer : decodeTableWord 16 0x3912 = some (.cer 1 2) := by decide
theorem test_decode_aer : decodeTableWord 16 0x3A12 = some (.aer 1 2) := by decide
theorem test_decode_ser : decodeTableWord 16 0x3B12 = some (.ser 1 2) := by decide
theorem test_decode_mer : decodeTableWord 16 0x3C12 = some (.mer 1 2) := by decide
theorem test_decode_der : decodeTableWord 16 0x3D12 = some (.der 1 2) := by decide
theorem test_decode_aur : decodeTableWord 16 0x3E12 = some (.aur 1 2) := by decide
theorem test_decode_sur : decodeTableWord 16 0x3F12 = some (.sur 1 2) := by decide
theorem test_decode_sth : decodeTableWord 32 0x4012BCDE = some (.sth 1 2 11 0xCDE) := by decide
theorem test_decode_la : decodeTableWord 32 0x4112BCDE = some (.la 1 2 11 0xCDE) := by decide
theorem test_decode_stc : decodeTableWord 32 0x4212BCDE = some (.stc 1 2 11 0xCDE) := by decide
theorem test_decode_ic : decodeTableWord 32 0x4312BCDE = some (.ic 1 2 11 0xCDE) := by decide
theorem test_decode_ex : decodeTableWord 32 0x4412BCDE = some (.ex 1 2 11 0xCDE) := by decide
theorem test_decode_bal : decodeTableWord 32 0x4512BCDE = some (.bal 1 2 11 0xCDE) := by decide
theorem test_decode_bct : decodeTableWord 32 0x4612BCDE = some (.bct 1 2 11 0xCDE) := by decide
theorem test_decode_bc : decodeTableWord 32 0x4712BCDE = some (.bc 1 2 11 0xCDE) := by decide
theorem test_decode_lh : decodeTableWord 32 0x4812BCDE = some (.lh 1 2 11 0xCDE) := by decide
theorem test_decode_ch : decodeTableWord 32 0x4912BCDE = some (.ch 1 2 11 0xCDE) := by decide
theorem test_decode_ah : decodeTableWord 32 0x4A12BCDE = some (.ah 1 2 11 0xCDE) := by decide
theorem test_decode_sh : decodeTableWord 32 0x4B12BCDE = some (.sh 1 2 11 0xCDE) := by decide
theorem test_decode_mh : decodeTableWord 32 0x4C12BCDE = some (.mh 1 2 11 0xCDE) := by decide
theorem test_decode_bas : decodeTableWord 32 0x4D12BCDE = some (.bas 1 2 11 0xCDE) := by decide
theorem test_decode_cvd : decodeTableWord 32 0x4E12BCDE = some (.cvd 1 2 11 0xCDE) := by decide
theorem test_decode_cvb : decodeTableWord 32 0x4F12BCDE = some (.cvb 1 2 11 0xCDE) := by decide
theorem test_decode_st : decodeTableWord 32 0x5012BCDE = some (.st 1 2 11 0xCDE) := by decide
theorem test_decode_lae : decodeTableWord 32 0x5112BCDE = some (.lae 1 2 11 0xCDE) := by decide
theorem test_decode_n : decodeTableWord 32 0x5412BCDE = some (.n 1 2 11 0xCDE) := by decide
theorem test_decode_cl : decodeTableWord 32 0x5512BCDE = some (.cl 1 2 11 0xCDE) := by decide
theorem test_decode_o : decodeTableWord 32 0x5612BCDE = some (.o 1 2 11 0xCDE) := by decide
theorem test_decode_x : decodeTableWord 32 0x5712BCDE = some (.x 1 2 11 0xCDE) := by decide
theorem test_decode_l : decodeTableWord 32 0x5812BCDE = some (.l 1 2 11 0xCDE) := by decide
theorem test_decode_c : decodeTableWord 32 0x5912BCDE = some (.c 1 2 11 0xCDE) := by decide
theorem test_decode_a : decodeTableWord 32 0x5A12BCDE = some (.a 1 2 11 0xCDE) := by decide
theorem test_decode_s : decodeTableWord 32 0x5B12BCDE = some (.s 1 2 11 0xCDE) := by decide
theorem test_decode_m : decodeTableWord 32 0x5C12BCDE = some (.m 1 2 11 0xCDE) := by decide
theorem test_decode_d : decodeTableWord 32 0x5D12BCDE = some (.d 1 2 11 0xCDE) := by decide
theorem test_decode_al : decodeTableWord 32 0x5E12BCDE = some (.al 1 2 11 0xCDE) := by decide
theorem test_decode_sl : decodeTableWord 32 0x5F12BCDE = some (.sl 1 2 11 0xCDE) := by decide
theorem test_decode_std : decodeTableWord 32 0x6012BCDE = some (.std 1 2 11 0xCDE) := by decide
theorem test_decode_mxd : decodeTableWord 32 0x6712BCDE = some (.mxd 1 2 11 0xCDE) := by decide
theorem test_decode_ld : decodeTableWord 32 0x6812BCDE = some (.ld 1 2 11 0xCDE) := by decide
theorem test_decode_cd : decodeTableWord 32 0x6912BCDE = some (.cd 1 2 11 0xCDE) := by decide
theorem test_decode_ad : decodeTableWord 32 0x6A12BCDE = some (.ad 1 2 11 0xCDE) := by decide
theorem test_decode_sd : decodeTableWord 32 0x6B12BCDE = some (.sd 1 2 11 0xCDE) := by decide
theorem test_decode_md : decodeTableWord 32 0x6C12BCDE = some (.md 1 2 11 0xCDE) := by decide
theorem test_decode_dd : decodeTableWord 32 0x6D12BCDE = some (.dd 1 2 11 0xCDE) := by decide
theorem test_decode_aw : decodeTableWord 32 0x6E12BCDE = some (.aw 1 2 11 0xCDE) := by decide
theorem test_decode_sw : decodeTableWord 32 0x6F12BCDE = some (.sw 1 2 11 0xCDE) := by decide
theorem test_decode_ste : decodeTableWord 32 0x7012BCDE = some (.ste 1 2 11 0xCDE) := by decide
theorem test_decode_le : decodeTableWord 32 0x7812BCDE = some (.le 1 2 11 0xCDE) := by decide
theorem test_decode_ce : decodeTableWord 32 0x7912BCDE = some (.ce 1 2 11 0xCDE) := by decide
theorem test_decode_ae : decodeTableWord 32 0x7A12BCDE = some (.ae 1 2 11 0xCDE) := by decide
theorem test_decode_se : decodeTableWord 32 0x7B12BCDE = some (.se 1 2 11 0xCDE) := by decide
theorem test_decode_me : decodeTableWord 32 0x7C12BCDE = some (.me 1 2 11 0xCDE) := by decide
theorem test_decode_de : decodeTableWord 32 0x7D12BCDE = some (.de 1 2 11 0xCDE) := by decide
theorem test_decode_au : decodeTableWord 32 0x7E12BCDE = some (.au 1 2 11 0xCDE) := by decide
theorem test_decode_su : decodeTableWord 32 0x7F12BCDE = some (.su 1 2 11 0xCDE) := by decide
theorem test_decode_bxh : decodeTableWord 32 0x8613BCDE = some (.bxh 1 3 11 0xCDE) := by decide
theorem test_decode_bxle : decodeTableWord 32 0x8713BCDE = some (.bxle 1 3 11 0xCDE) := by decide
theorem test_decode_srl : decodeTableWord 32 0x8810BCDE = some (.srl 1 11 0xCDE) := by decide
theorem test_decode_sll : decodeTableWord 32 0x8910BCDE = some (.sll 1 11 0xCDE) := by decide
theorem test_decode_sra : decodeTableWord 32 0x8A10BCDE = some (.sra 1 11 0xCDE) := by decide
theorem test_decode_sla : decodeTableWord 32 0x8B10BCDE = some (.sla 1 11 0xCDE) := by decide
theorem test_decode_srdl : decodeTableWord 32 0x8C10BCDE = some (.srdl 1 11 0xCDE) := by decide
theorem test_decode_sldl : decodeTableWord 32 0x8D10BCDE = some (.sldl 1 11 0xCDE) := by decide
theorem test_decode_srda : decodeTableWord 32 0x8E10BCDE = some (.srda 1 11 0xCDE) := by decide
theorem test_decode_slda : decodeTableWord 32 0x8F10BCDE = some (.slda 1 11 0xCDE) := by decide
theorem test_decode_stm : decodeTableWord 32 0x9013BCDE = some (.stm 1 3 11 0xCDE) := by decide
theorem test_decode_tm : decodeTableWord 32 0x91F1789A = some (.tm 7 0x89A 0xF1) := by decide
theorem test_decode_mvi : decodeTableWord 32 0x92F1789A = some (.mvi 7 0x89A 0xF1) := by decide
theorem test_decode_ts : decodeTableWord 32 0x9300BCDE = some (.ts 11 0xCDE) := by decide
theorem test_decode_ni : decodeTableWord 32 0x94F1789A = some (.ni 7 0x89A 0xF1) := by decide
theorem test_decode_cli : decodeTableWord 32 0x95F1789A = some (.cli 7 0x89A 0xF1) := by decide
theorem test_decode_oi : decodeTableWord 32 0x96F1789A = some (.oi 7 0x89A 0xF1) := by decide
theorem test_decode_xi : decodeTableWord 32 0x97F1789A = some (.xi 7 0x89A 0xF1) := by decide
theorem test_decode_lm : decodeTableWord 32 0x9813BCDE = some (.lm 1 3 11 0xCDE) := by decide
theorem test_decode_lam : decodeTableWord 32 0x9A13BCDE = some (.lam 1 3 11 0xCDE) := by decide
theorem test_decode_stam : decodeTableWord 32 0x9B13BCDE = some (.stam 1 3 11 0xCDE) := by decide
theorem test_decode_mc : decodeTableWord 32 0xAFF1789A = some (.mc 7 0x89A 0xF1) := by decide
theorem test_decode_stck : decodeTableWord 32 0xB205BCDE = some (.stck 11 0xCDE) := by decide
theorem test_decode_sac : decodeTableWord 32 0xB219BCDE = some (.sac 11 0xCDE) := by decide
theorem test_decode_ipm : decodeTableWord 32 0xB2220010 = some (.ipm 1) := by decide
theorem test_decode_iac : decodeTableWord 32 0xB2240010 = some (.iac 1) := by decide
theorem test_decode_dxr : decodeTableWord 32 0xB22D0012 = some (.dxr 1 2) := by decide
theorem test_decode_tar : decodeTableWord 32 0xB24C0012 = some (.tar 1 2) := by decide
theorem test_decode_cpya : decodeTableWord 32 0xB24D0012 = some (.cpya 1 2) := by decide
theorem test_decode_sar : decodeTableWord 32 0xB24E0012 = some (.sar 1 2) := by decide
theorem test_decode_ear : decodeTableWord 32 0xB24F0012 = some (.ear 1 2) := by decide
theorem test_decode_cs : decodeTableWord 32 0xBA13BCDE = some (.cs 1 3 11 0xCDE) := by decide
theorem test_decode_cds : decodeTableWord 32 0xBB13BCDE = some (.cds 1 3 11 0xCDE) := by decide
theorem test_decode_clm : decodeTableWord 32 0xBD15BCDE = some (.clm 1 5 11 0xCDE) := by decide
theorem test_decode_stcm : decodeTableWord 32 0xBE15BCDE = some (.stcm 1 5 11 0xCDE) := by decide
theorem test_decode_icm : decodeTableWord 32 0xBF15BCDE = some (.icm 1 5 11 0xCDE) := by decide
theorem test_decode_mvn : decodeTableWord 48 0xD12F789ABCDE = some (.mvn 48 7 0x89A 11 0xCDE) := by decide
theorem test_decode_mvc : decodeTableWord 48 0xD22F789ABCDE = some (.mvc 48 7 0x89A 11 0xCDE) := by decide
theorem test_decode_mvz : decodeTableWord 48 0xD32F789ABCDE = some (.mvz 48 7 0x89A 11 0xCDE) := by decide
theorem test_decode_nc : decodeTableWord 48 0xD42F789ABCDE = some (.nc 48 7 0x89A 11 0xCDE) := by decide
theorem test_decode_clc : decodeTableWord 48 0xD52F789ABCDE = some (.clc 48 7 0x89A 11 0xCDE) := by decide
theorem test_decode_oc : decodeTableWord 48 0xD62F789ABCDE = some (.oc 48 7 0x89A 11 0xCDE) := by decide
theorem test_decode_xc : decodeTableWord 48 0xD72F789ABCDE = some (.xc 48 7 0x89A 11 0xCDE) := by decide
theorem test_decode_tr : decodeTableWord 48 0xDC2F789ABCDE = some (.tr 48 7 0x89A 11 0xCDE) := by decide
theorem test_decode_trt : decodeTableWord 48 0xDD2F789ABCDE = some (.trt 48 7 0x89A 11 0xCDE) := by decide
theorem test_decode_ed : decodeTableWord 48 0xDE2F789ABCDE = some (.ed 48 7 0x89A 11 0xCDE) := by decide
theorem test_decode_edmk : decodeTableWord 48 0xDF2F789ABCDE = some (.edmk 48 7 0x89A 11 0xCDE) := by decide
theorem test_decode_srp : decodeTableWord 48 0xF036789ABCDE = some (.srp 4 7 0x89A 11 0xCDE 6) := by decide
theorem test_decode_mvo : decodeTableWord 48 0xF138789ABCDE = some (.mvo 4 9 7 0x89A 11 0xCDE) := by decide
theorem test_decode_pack : decodeTableWord 48 0xF238789ABCDE = some (.pack 4 9 7 0x89A 11 0xCDE) := by decide
theorem test_decode_unpk : decodeTableWord 48 0xF338789ABCDE = some (.unpk 4 9 7 0x89A 11 0xCDE) := by decide
theorem test_decode_zap : decodeTableWord 48 0xF838789ABCDE = some (.zap 4 9 7 0x89A 11 0xCDE) := by decide
theorem test_decode_cp : decodeTableWord 48 0xF938789ABCDE = some (.cp 4 9 7 0x89A 11 0xCDE) := by decide
theorem test_decode_ap : decodeTableWord 48 0xFA38789ABCDE = some (.ap 4 9 7 0x89A 11 0xCDE) := by decide
theorem test_decode_sp : decodeTableWord 48 0xFB38789ABCDE = some (.sp 4 9 7 0x89A 11 0xCDE) := by decide
theorem test_decode_mp : decodeTableWord 48 0xFC38789ABCDE = some (.mp 4 9 7 0x89A 11 0xCDE) := by decide
theorem test_decode_dp : decodeTableWord 48 0xFD38789ABCDE = some (.dp 4 9 7 0x89A 11 0xCDE) := by decide
/-! ## Instructions -/

theorem test_spm_1 : (ran (.spm 1) (gr 1 0x3CFFFFFF st)).map (fun t => (t.cc, t.pm)) = some (3, 0xC) := by decide
theorem test_balr_1 : (ran (.balr 14 0) (withPm 0x0 st)).map (fun t => (t.getGr 14, t.pc)) = some (0x40001002, 0x1002) := by decide
theorem test_balr_2 : (ran (.balr 14 15) (withPc 0x200000 (withAmode st))).map (fun t => t.getGr 14) = some 0x80200002 := by decide
theorem test_bctr_1 : (ran (.bctr 1 0) (gr 1 0x5 st)).map (fun t => (t.getGr 1, t.pc)) = some (0x4, 0x1002) := by decide
theorem test_bctr_2 : (ran (.bctr 1 2) (gr 2 0x2000 (gr 1 0x1 st))).map (fun t => (t.getGr 1, t.pc)) = some (0x0, 0x1002) := by decide
theorem test_bcr_1 : (ran (.bcr 8 14) (gr 14 0x2000 (withCc 0 st))).map (fun t => t.pc) = some 0x2000 := by decide
theorem test_bcr_2 : (ran (.bcr 8 14) (gr 14 0x2000 (withCc 1 st))).map (fun t => t.pc) = some 0x1002 := by decide
theorem test_svc_1 : (ran (.svc 0xFF) st).map (fun t => t.pc) = some 0x1002 := by decide
theorem test_svc_2 : (ran (.svc 0xFF) (withHost .running)).map (fun t => (t.svcCode, t.status, t.pc)) =
    some (0xFF, .service, 0x1002) := by decide
theorem test_bsm_1 : (ran (.bsm 0 0) (gr 0 0x5 (withAmode st))).map (fun t => (t.amode, t.getGr 0, t.pc)) = some (true, 0x5, 0x1002) := by decide
theorem test_bsm_2 : (ran (.bsm 14 15) (gr 15 0x80345678 (gr 14 0x12345678 st))).map (fun t => (t.getGr 14, t.amode, t.pc)) = some (0x12345678, true, 0x345678) := by decide
theorem test_bassm_1 : (ran (.bassm 14 15) (gr 15 0x80345678 st)).map (fun t => (t.getGr 14, t.amode, t.pc)) = some (0x1002, true, 0x345678) := by decide
theorem test_bassm_2 : (ran (.bassm 14 0) (withPc 0x200000 (withAmode st))).map (fun t => (t.getGr 14, t.amode, t.pc)) = some (0x80200002, true, 0x200002) := by decide
theorem test_basr_1 : (ran (.basr 14 15) (gr 15 0xFF002000 st)).map (fun t => (t.getGr 14, t.pc)) = some (0x1002, 0x2000) := by decide
theorem test_mvcl_1 : (ran (.mvcl 4 10) (mem 0x810 3 0x010203 (gr 11 0x5C000003 (gr 10 0x810 (gr 5 0xAA000002 (gr 4 0xFF000800 st)))))).map (fun t => (t.value (loc 0x800) 3, t.getGr 4, t.getGr 11, t.cc)) = some (0x010200, 0x802, 0x5C000001, 1) := by decide
theorem test_mvcl_2 : (ran (.mvcl 4 10) (mem 0x810 3 0x010203 (gr 11 0x5C000003 (gr 10 0x810 (gr 5 0x8 (gr 4 0x800 st)))))).map (fun t => (t.value (loc 0x800) 8, t.getGr 4, t.getGr 10, t.cc)) = some (0x0102035C5C5C5C5C, 0x808, 0x813, 2) := by decide
theorem test_clcl_1 : (ran (.clcl 4 10) (mem 0x810 4 0x01020304 (mem 0x800 6 0x010203044041 (gr 11 0x40000004 (gr 5 0x6 (gr 10 0x810 (gr 4 0x800 st))))))).map (fun t => (t.getGr 4, t.getGr 5, t.getGr 11, t.cc)) = some (0x805, 0x1, 0x40000000, 2) := by decide
theorem test_clcl_2 : (ran (.clcl 4 10) (mem 0x810 4 0x01024039 (mem 0x800 2 0x0102 (gr 11 0x40000004 (gr 5 0x2 (gr 10 0x810 (gr 4 0x800 st))))))).map (fun t => (t.getGr 5, t.getGr 10, t.getGr 11, t.cc)) = some (0x0, 0x813, 0x40000001, 2) := by decide
theorem test_lpr_1 : (ran (.lpr 1 2) (gr 2 0xFFFFFFFB st)).map (fun t => (t.getGr 1, t.cc)) = some (0x5, 2) := by decide
theorem test_lnr_1 : (ran (.lnr 1 2) (gr 2 0x5 st)).map (fun t => (t.getGr 1, t.cc)) = some (0xFFFFFFFB, 1) := by decide
theorem test_ltr_1 : (ran (.ltr 1 1) (gr 1 0x80000000 st)).map (fun t => (t.getGr 1, t.cc)) = some (0x80000000, 1) := by decide
theorem test_lcr_1 : (ran (.lcr 1 2) (gr 2 0x0 st)).map (fun t => (t.getGr 1, t.cc)) = some (0x0, 0) := by decide
theorem test_lcr_2 : (ran (.lcr 1 2) (gr 2 0x80000000 st)).map (fun t => (t.getGr 1, t.cc, t.status)) = some (0x80000000, 3, .terminated .fixedPointOverflow) := by decide
theorem test_nr_1 : (ran (.nr 1 2) (gr 2 0x0F0F0F0F (gr 1 0xF0F0F0F0 st))).map (fun t => (t.getGr 1, t.cc)) = some (0x0, 0) := by decide
theorem test_clr_1 : (ran (.clr 1 2) (gr 2 0x1 (gr 1 0xFFFFFFFF st))).map (fun t => t.cc) = some 2 := by decide
theorem test_or_1 : (ran (.or 1 2) st).map (fun t => (t.getGr 1, t.cc)) = some (0x0, 0) := by decide
theorem test_xr_1 : (ran (.xr 1 1) (gr 1 0x7 st)).map (fun t => (t.getGr 1, t.cc)) = some (0x0, 0) := by decide
theorem test_lr_1 : (ran (.lr 1 2) (withCc 1 (gr 2 0x89ABCDEF st))).map (fun t => (t.getGr 1, t.cc)) = some (0x89ABCDEF, 1) := by decide
theorem test_cr_1 : (ran (.cr 1 2) (gr 2 0x1 (gr 1 0xFFFFFFFF st))).map (fun t => t.cc) = some 1 := by decide
theorem test_ar_1 : (ran (.ar 1 2) (gr 2 0x1 (gr 1 0xFFFFFFFF st))).map (fun t => (t.getGr 1, t.cc)) = some (0x0, 0) := by decide
theorem test_ar_2 : (ran (.ar 1 1) (gr 1 0x40000000 st)).map (fun t => (t.getGr 1, t.cc, t.status, t.pc)) = some (0x80000000, 3, .terminated .fixedPointOverflow, 0x1002) := by decide
theorem test_sr_1 : (ran (.sr 1 1) (gr 1 0x77 st)).map (fun t => (t.getGr 1, t.cc)) = some (0x0, 0) := by decide
theorem test_sr_2 : (ran (.sr 1 2) (gr 2 0x1 (gr 1 0x80000000 st))).map (fun t => (t.getGr 1, t.cc, t.status)) = some (0x7FFFFFFF, 3, .terminated .fixedPointOverflow) := by decide
theorem test_mr_1 : (ran (.mr 2 3) (gr 3 0x10000 st)).map (fun t => (t.getGr 2, t.getGr 3)) = some (0x1, 0x0) := by decide
theorem test_mr_2 : (ran (.mr 3 5) st).map (fun t => (t.status, t.pc)) = some (.terminated .specification, 0x1000) := by decide
theorem test_dr_1 : (ran (.dr 4 5) (gr 5 0x9 (gr 4 0x0 st))).map (fun t => (t.getGr 4, t.getGr 5)) = some (0x0, 0x1) := by decide
theorem test_dr_2 : (ran (.dr 4 6) (gr 6 0x0 (gr 5 0x7 (gr 4 0x0 st)))).map (fun t => (t.getGr 4, t.getGr 5, t.status, t.pc)) = some (0x0, 0x7, .terminated .divide, 0x1000) := by decide
theorem test_alr_1 : (ran (.alr 1 2) (gr 2 0x0 (gr 1 0x0 st))).map (fun t => (t.getGr 1, t.cc)) = some (0x0, 0) := by decide
theorem test_alr_2 : (ran (.alr 1 2) (gr 2 0x80000000 (gr 1 0x80000000 st))).map (fun t => (t.getGr 1, t.cc)) = some (0x0, 2) := by decide
theorem test_slr_1 : (ran (.slr 1 2) (gr 2 0x5 (gr 1 0x5 st))).map (fun t => (t.getGr 1, t.cc)) = some (0x0, 2) := by decide
theorem test_slr_2 : (ran (.slr 1 2) (gr 2 0x7FFFFFFF (gr 1 0x80000000 st))).map (fun t => (t.getGr 1, t.cc)) = some (0x1, 3) := by decide
theorem test_lpdr_1 : (ran (.lpdr 0 2) (fr 2 0xC110000000000000 st)).map (fun t => (t.getFpr 0, t.cc)) = some (0x4110000000000000, 2) := by decide
theorem test_lndr_1 : (ran (.lndr 0 2) (fr 2 0x4110000000000000 st)).map (fun t => (t.getFpr 0, t.cc)) = some (0xC110000000000000, 1) := by decide
theorem test_ltdr_1 : (ran (.ltdr 0 0) (fr 0 0x4100000000000001 st)).map (fun t => (t.cc, t.getFpr 0)) = some (2, 0x4100000000000001) := by decide
theorem test_lcdr_1 : (ran (.lcdr 0 2) (fr 2 0x4110000000000000 st)).map (fun t => (t.getFpr 0, t.cc)) = some (0xC110000000000000, 1) := by decide
theorem test_hdr_1 : (ran (.hdr 0 2) (fr 2 0xC2FFFFFFFFFFFFFF st)).map (fun t => t.getFpr 0) = some 0xC27FFFFFFFFFFFFF := by decide
theorem test_lrdr_1 : (ran (.lrdr 0 4) (fr 6 0x3380000000000000 (fr 4 0x41FFFFFFFFFFFFFF st))).map (fun t => t.getFpr 0) = some 0x4210000000000000 := by decide
theorem test_mxr_1 : (ran (.mxr 0 4) (fr 6 0x0000000000000000 (fr 4 0x4130000000000000 (fr 2 0x3300000000000001 (fr 0 0x4120000000000000 st))))).map (fun t => (t.getFpr 0, t.getFpr 2)) = some (0x4160000000000000, 0x3300000000000003) := by decide
theorem test_mxdr_1 : (ran (.mxdr 0 2) (fr 2 0x41FFFFFFFFFFFFFF (fr 0 0x41FFFFFFFFFFFFFF st))).map (fun t => (t.getFpr 0, t.getFpr 2)) = some (0x42FFFFFFFFFFFFFE, 0x3400000000000001) := by decide
theorem test_ldr_1 : (ran (.ldr 0 2) (withCc 3 (fr 2 0x0123456789ABCDEF st))).map (fun t => (t.getFpr 0, t.cc)) = some (0x0123456789ABCDEF, 3) := by decide
theorem test_cdr_1 : (ran (.cdr 0 2) (withCc 3 (fr 2 0x4201000000000000 (fr 0 0x4110000000000000 st)))).map (fun t => t.cc) = some 0 := by decide
theorem test_adr_1 : (ran (.adr 0 2) (fr 2 0x4110000000000000 (fr 0 0x4110000000000000 st))).map (fun t => (t.getFpr 0, t.cc)) = some (0x4120000000000000, 2) := by decide
theorem test_sdr_1 : (ran (.sdr 0 2) (fr 2 0x4010000000000000 (fr 0 0x4110000000000000 st))).map (fun t => (t.getFpr 0, t.cc)) = some (0x40F0000000000000, 2) := by decide
theorem test_mdr_1 : (ran (.mdr 0 2) (fr 2 0x41FFFFFFFFFFFFFF (fr 0 0x41FFFFFFFFFFFFFF st))).map (fun t => t.getFpr 0) = some 0x42FFFFFFFFFFFFFE := by decide
theorem test_ddr_1 : (ran (.ddr 0 2) (fr 2 0x4130000000000000 (fr 0 0x4110000000000000 st))).map (fun t => t.getFpr 0) = some 0x4055555555555555 := by decide
theorem test_awr_1 : (ran (.awr 0 2) (fr 2 0x4E00000000000002 (fr 0 0x4E00000000000001 st))).map (fun t => (t.getFpr 0, t.cc)) = some (0x4E00000000000003, 2) := by decide
theorem test_swr_1 : (ran (.swr 0 2) (fr 2 0x4E00000000000003 (fr 0 0x4E00000000000001 st))).map (fun t => (t.getFpr 0, t.cc)) = some (0xCE00000000000002, 1) := by decide
theorem test_lper_1 : (ran (.lper 0 2) (withCc 3 (fr 2 0xC1100000AAAABBBB (fr 0 0x1111111122222222 st)))).map (fun t => (t.getFpr 0, t.cc)) = some (0x4110000022222222, 2) := by decide
theorem test_lner_1 : (ran (.lner 0 2) (withCc 3 (fr 2 0x41100000AAAABBBB (fr 0 0x1111111122222222 st)))).map (fun t => (t.getFpr 0, t.cc)) = some (0xC110000022222222, 1) := by decide
theorem test_lter_1 : (ran (.lter 0 0) (withCc 3 (fr 0 0x4100000000000001 st))).map (fun t => (t.cc, t.getFpr 0)) = some (0, 0x4100000000000001) := by decide
theorem test_lcer_1 : (ran (.lcer 0 2) (withCc 3 (fr 2 0x41100000AAAABBBB (fr 0 0x1111111122222222 st)))).map (fun t => (t.getFpr 0, t.cc)) = some (0xC110000022222222, 1) := by decide
theorem test_her_1 : (ran (.her 0 2) (withCc 3 (withPm 0xF (fr 2 0x41100000AAAABBBB (fr 0 0x1111111122222222 st))))).map (fun t => (t.getFpr 0, t.cc)) = some (0x4080000022222222, 3) := by decide
theorem test_her_2 : (ran (.her 0 2) (withCc 3 (withPm 0xF (fr 2 0x00100000AAAABBBB (fr 0 0x1111111122222222 st))))).map (fun t => (t.getFpr 0, t.cc, t.status)) = some (0x7F80000022222222, 3, .terminated .exponentUnderflow) := by decide
theorem test_lrer_1 : (ran (.lrer 0 0) (fr 0 0xC6FFFFFF890ABCDE st)).map (fun t => t.getFpr 0) = some 0xC7100000890ABCDE := by decide
theorem test_lrer_2 : (ran (.lrer 0 2) (fr 2 0x7FFFFFFFF8000000 (fr 0 0x1111111122222222 st))).map (fun t => (t.getFpr 0, t.status)) = some (0x0010000022222222, .terminated .exponentOverflow) := by decide
theorem test_axr_1 : (ran (.axr 0 4) (fr 6 0x0000000000000000 (fr 4 0x3310000000000000 (fr 2 0x3300000000000000 (fr 0 0x4110000000000000 st))))).map (fun t => (t.getFpr 0, t.getFpr 2, t.cc)) = some (0x4110000000000000, 0x3310000000000000, 2) := by decide
theorem test_axr_2 : (ran (.axr 2 4) st).map (fun t => t.status) = some (.terminated .specification) := by decide
theorem test_sxr_1 : (ran (.sxr 0 4) (fr 6 0x0000000000000000 (fr 4 0x2510000000000000 (fr 2 0x0000000000000000 (fr 0 0x4110000000000000 st))))).map (fun t => (t.getFpr 0, t.getFpr 2, t.cc)) = some (0x40FFFFFFFFFFFFFF, 0x32FFFFFFFFFFFFFF, 2) := by decide
theorem test_ler_1 : (ran (.ler 0 2) (withCc 3 (fr 2 0x41123456AAAABBBB (fr 0 0x1111111122222222 st)))).map (fun t => (t.getFpr 0, t.cc)) = some (0x4112345622222222, 3) := by decide
theorem test_cer_1 : (ran (.cer 0 2) (fr 2 0x40F00000AAAABBBB (fr 0 0x41100000AAAABBBB st))).map (fun t => t.cc) = some 2 := by decide
theorem test_aer_1 : (ran (.aer 0 2) (withCc 3 (withPm 0xF (fr 2 0x41100000AAAABBBB (fr 0 0x41100000AAAABBBB st))))).map (fun t => (t.getFpr 0, t.cc)) = some (0x41200000AAAABBBB, 2) := by decide
theorem test_aer_2 : (ran (.aer 0 2) (withCc 3 (withPm 0xF (fr 2 0x7F100000AAAABBBB (fr 0 0x7FF00000AAAABBBB st))))).map (fun t => (t.getFpr 0, t.cc, t.status)) = some (0x00100000AAAABBBB, 2, .terminated .exponentOverflow) := by decide
theorem test_ser_1 : (ran (.ser 0 2) (fr 2 0x41100000AAAABBBB (fr 0 0x41200000AAAABBBB st))).map (fun t => (t.getFpr 0, t.cc)) = some (0x41100000AAAABBBB, 2) := by decide
theorem test_mer_1 : (ran (.mer 0 2) (withCc 3 (fr 2 0x41200000AAAABBBB (fr 0 0x41300000AAAABBBB st)))).map (fun t => (t.getFpr 0, t.cc)) = some (0x4160000000000000, 3) := by decide
theorem test_mer_2 : (ran (.mer 0 2) (withCc 3 (fr 2 0x42100000AAAABBBB (fr 0 0x7F100000AAAABBBB st)))).map (fun t => (t.getFpr 0, t.cc, t.status)) = some (0x0010000000000000, 3, .terminated .exponentOverflow) := by decide
theorem test_der_1 : (ran (.der 0 2) (withCc 3 (withPm 0xF (fr 2 0x41300000AAAABBBB (fr 0 0x41100000AAAABBBB st))))).map (fun t => (t.getFpr 0, t.cc)) = some (0x40555555AAAABBBB, 3) := by decide
theorem test_der_2 : (ran (.der 0 2) (fr 2 0x41000000AAAABBBB (fr 0 0x41100000AAAABBBB st))).map (fun t => (t.getFpr 0, t.status, t.pc)) = some (0x41100000AAAABBBB, .terminated .divide, 0x1000) := by decide
theorem test_aur_1 : (ran (.aur 0 2) (fr 2 0xC10FFFFFAAAABBBB (fr 0 0x41100000AAAABBBB st))).map (fun t => (t.getFpr 0, t.cc)) = some (0x41000001AAAABBBB, 2) := by decide
theorem test_aur_2 : (ran (.aur 0 2) (fr 2 0xC1100000AAAABBBB (fr 0 0x41100000AAAABBBB st))).map (fun t => (t.getFpr 0, t.cc, t.status)) = some (0x41000000AAAABBBB, 0, .terminated .significance) := by decide
theorem test_sur_1 : (ran (.sur 0 2) (fr 2 0x41210000AAAABBBB (fr 0 0x41200000AAAABBBB st))).map (fun t => (t.getFpr 0, t.cc)) = some (0xC1010000AAAABBBB, 1) := by decide
theorem test_sth_1 : (ran (.sth 1 0 0 0x802) (mem 0x800 8 0xEEEEEEEEEEEEEEEE (gr 1 0x11223344 st))).map (fun t => t.value (loc 0x800) 8) = some 0xEEEE3344EEEEEEEE := by decide
theorem test_sth_2 : (ran (.sth 1 0 0 0x801) st).map (fun t => t.status) = some (.terminated .specification) := by decide
theorem test_la_1 : (ran (.la 0 0 0 0) (gr 0 0x55 st)).map (fun t => t.getGr 0) = some 0x0 := by decide
theorem test_la_2 : (ran (.la 1 0 1 1) (gr 1 0xFF000010 st)).map (fun t => t.getGr 1) = some 0x11 := by decide
theorem test_stc_1 : (ran (.stc 1 0 0 0x801) (mem 0x800 8 0xEEEEEEEEEEEEEEEE (gr 1 0x11223344 st))).map (fun t => t.value (loc 0x800) 8) = some 0xEE44EEEEEEEEEEEE := by decide
theorem test_ic_1 : (ran (.ic 1 0 0 0x801) (mem 0x801 1 0xAB (gr 1 0x11223344 st))).map (fun t => t.getGr 1) = some 0x112233AB := by decide
theorem test_ex_1 : (ran (.ex 5 0 0 0x900) (gr 15 0x2000 (withCc 2 (mem 0x900 2 0x0500 (gr 5 0xEF st))))).map (fun t => (t.getGr 14, t.pc)) = some (0xAF001004, 0x2000) := by decide
theorem test_ex_2 : (ran (.ex 1 0 0 0x900) (mem 0x900 2 0x1A02 (gr 2 0x7FFFFFFF (gr 1 0x10 st)))).map (fun t => (t.getGr 1, t.cc, t.status, t.pc)) = some (0x8000000F, 3, .terminated .fixedPointOverflow, 0x1004) := by decide
theorem test_bal_1 : (ran (.bal 14 0 0 0x800) (withPm 0x8 (withCc 1 st))).map (fun t => (t.getGr 14, t.pc)) = some (0x98001004, 0x800) := by decide
theorem test_bct_1 : (ran (.bct 1 0 0 0x800) (gr 1 0x2 st)).map (fun t => (t.getGr 1, t.pc)) = some (0x1, 0x800) := by decide
theorem test_bct_2 : (ran (.bct 1 0 0 0x800) (gr 1 0x0 st)).map (fun t => (t.getGr 1, t.pc)) = some (0xFFFFFFFF, 0x800) := by decide
theorem test_bc_1 : (ran (.bc 0 0 0 0x800) st).map (fun t => t.pc) = some 0x1004 := by decide
theorem test_bc_2 : (ran (.bc 15 1 2 6) (gr 2 0x200 (gr 1 0x100 st))).map (fun t => t.pc) = some 0x306 := by decide
theorem test_lh_1 : (ran (.lh 1 0 0 0x802) (withCc 3 (mem 0x802 2 0x8000 st))).map (fun t => (t.getGr 1, t.cc)) = some (0xFFFF8000, 3) := by decide
theorem test_lh_2 : (ran (.lh 1 0 0 0x801) st).map (fun t => t.status) = some (.terminated .specification) := by decide
theorem test_ch_1 : (ran (.ch 1 0 0 0x802) (mem 0x802 2 0x8000 (gr 1 0x8000 st))).map (fun t => t.cc) = some 2 := by decide
theorem test_ah_1 : (ran (.ah 1 0 0 0x802) (mem 0x802 2 0xFFFF (gr 1 0x0 st))).map (fun t => (t.getGr 1, t.cc)) = some (0xFFFFFFFF, 1) := by decide
theorem test_ah_2 : (ran (.ah 1 0 0 0x802) (mem 0x802 2 0x0001 (gr 1 0x7FFFFFFF st))).map (fun t => (t.getGr 1, t.cc, t.status)) = some (0x80000000, 3, .terminated .fixedPointOverflow) := by decide
theorem test_sh_1 : (ran (.sh 1 0 0 0x802) (mem 0x802 2 0x8000 (gr 1 0x80000000 st))).map (fun t => (t.getGr 1, t.cc)) = some (0x80008000, 1) := by decide
theorem test_mh_1 : (ran (.mh 1 0 0 0x802) (mem 0x802 2 0xFFFE (gr 1 0xFFFFFFFD st))).map (fun t => t.getGr 1) = some 0x6 := by decide
theorem test_bas_1 : (ran (.bas 14 1 2 4) (gr 2 0x200 (gr 1 0x100 st))).map (fun t => (t.getGr 14, t.pc)) = some (0x1004, 0x304) := by decide
theorem test_cvd_1 : (ran (.cvd 1 0 0 0x800) (withCc 2 (gr 1 0x0 st))).map (fun t => (t.value (loc 0x800) 8, t.cc)) = some (0x000000000000000C, 2) := by decide
theorem test_cvd_2 : (ran (.cvd 1 0 0 0x804) st).map (fun t => t.status) = some (.terminated .specification) := by decide
theorem test_cvb_1 : (ran (.cvb 1 0 0 0x800) (gr 1 0x5 (mem 0x800 8 0x000000000000000D st))).map (fun t => t.getGr 1) = some 0x0 := by decide
theorem test_cvb_2 : (ran (.cvb 1 0 0 0x800) (gr 1 0x5 (mem 0x800 8 0x000002147483648C st))).map (fun t => (t.getGr 1, t.status, t.pc)) = some (0x80000000, .terminated .divide, 0x1004) := by decide
theorem test_st_1 : (ran (.st 1 0 0 0x800) (mem 0x800 8 0xEEEEEEEEEEEEEEEE (gr 1 0x11223344 st))).map (fun t => t.value (loc 0x800) 8) = some 0x11223344EEEEEEEE := by decide
theorem test_lae_1 : (ran (.lae 3 0 5 0x10) (ar 5 0x7 (gr 5 0x12000 (withAsc (withAmode st))))).map (fun t => (t.getGr 3, t.getAr 3)) = some (0x12010, 0x7) := by decide
theorem test_lae_2 : (ran (.lae 3 5 0 0x10) (ar 3 0x9 (ar 5 0x7 (gr 5 0x12000 (withAsc (withAmode st)))))).map (fun t => (t.getGr 3, t.getAr 3)) = some (0x12010, 0x0) := by decide
theorem test_n_1 : (ran (.n 1 0 0 0x800) (mem 0x800 4 0x0000FFFF (gr 1 0x12345678 st))).map (fun t => (t.getGr 1, t.cc)) = some (0x5678, 1) := by decide
theorem test_cl_1 : (ran (.cl 1 0 0 0x800) (mem 0x800 4 0x80000000 (gr 1 0x8000 st))).map (fun t => t.cc) = some 1 := by decide
theorem test_o_1 : (ran (.o 1 0 0 0x800) (mem 0x800 4 0x0000FFFF (gr 1 0x12345678 st))).map (fun t => (t.getGr 1, t.cc)) = some (0x1234FFFF, 1) := by decide
theorem test_x_1 : (ran (.x 1 0 0 0x800) (mem 0x800 4 0x12345678 (gr 1 0x12345678 st))).map (fun t => (t.getGr 1, t.cc)) = some (0x0, 0) := by decide
theorem test_l_1 : (ran (.l 1 0 0 0x800) (withCc 3 (mem 0x800 4 0x89ABCDEF st))).map (fun t => (t.getGr 1, t.cc)) = some (0x89ABCDEF, 3) := by decide
theorem test_l_2 : (ran (.l 1 0 5 0) (gr 1 0x7 (gr 5 0x5000 st))).map (fun t => (t.getGr 1, t.status)) = some (0x7, .terminated .addressTranslation) := by decide
theorem test_c_1 : (ran (.c 1 0 0 0x800) (mem 0x800 4 0x80000000 (gr 1 0x8000 st))).map (fun t => t.cc) = some 2 := by decide
theorem test_a_1 : (ran (.a 1 0 0 0x800) (mem 0x800 4 0xFFFFFFFE (gr 1 0x5 st))).map (fun t => (t.getGr 1, t.cc, t.pc)) = some (0x3, 2, 0x1004) := by decide
theorem test_a_2 : (ran (.a 1 0 0 0x802) (gr 1 0x5 st)).map (fun t => (t.getGr 1, t.status, t.pc)) = some (0x5, .terminated .specification, 0x1000) := by decide
theorem test_s_1 : (ran (.s 1 0 0 0x800) (mem 0x800 4 0x00000003 (gr 1 0x3 st))).map (fun t => (t.getGr 1, t.cc)) = some (0x0, 0) := by decide
theorem test_m_1 : (ran (.m 4 0 0 0x800) (mem 0x800 4 0x80000000 (gr 5 0x80000000 st))).map (fun t => (t.getGr 4, t.getGr 5)) = some (0x40000000, 0x0) := by decide
theorem test_d_1 : (ran (.d 4 0 0 0x800) (mem 0x800 4 0x00000002 (gr 5 0xFFFFFFFF (gr 4 0x0 st)))).map (fun t => (t.getGr 4, t.getGr 5)) = some (0x1, 0x7FFFFFFF) := by decide
theorem test_d_2 : (ran (.d 4 0 0 0x800) (mem 0x800 4 0x00000002 (gr 5 0x0 (gr 4 0x1 st)))).map (fun t => t.status) = some (.terminated .divide) := by decide
theorem test_al_1 : (ran (.al 1 0 0 0x800) (mem 0x800 4 0x00000001 (gr 1 0xFFFFFFFF st))).map (fun t => (t.getGr 1, t.cc)) = some (0x0, 2) := by decide
theorem test_sl_1 : (ran (.sl 1 0 0 0x800) (mem 0x800 4 0x00000001 (gr 1 0x0 st))).map (fun t => (t.getGr 1, t.cc)) = some (0xFFFFFFFF, 1) := by decide
theorem test_std_1 : (ran (.std 0 0 0 0x800) (fr 0 0x0123456789ABCDEF st)).map (fun t => t.value (loc 0x800) 8) = some 0x0123456789ABCDEF := by decide
theorem test_mxd_1 : (ran (.mxd 0 0 0 0x800) (mem 0x800 8 0x41FFFFFFFFFFFFFF (fr 0 0x41FFFFFFFFFFFFFF st))).map (fun t => (t.getFpr 0, t.getFpr 2)) = some (0x42FFFFFFFFFFFFFE, 0x3400000000000001) := by decide
theorem test_ld_1 : (ran (.ld 0 0 0 0x800) (mem 0x800 8 0x0123456789ABCDEF st)).map (fun t => t.getFpr 0) = some 0x0123456789ABCDEF := by decide
theorem test_cd_1 : (ran (.cd 0 0 0 0x800) (withCc 3 (mem 0x800 8 0x4201000000000000 (fr 0 0x4110000000000000 st)))).map (fun t => t.cc) = some 0 := by decide
theorem test_ad_1 : (ran (.ad 2 0 0 0x800) (mem 0x800 8 0xC001111111111111 (fr 2 0x3F11111111111111 st))).map (fun t => (t.getFpr 2, t.cc)) = some (0x3210000000000000, 2) := by decide
theorem test_sd_1 : (ran (.sd 0 0 0 0x800) (withCc 3 (withPm 0xF (mem 0x800 8 0x4E00000080000000 (fr 0 0x4E0000007FFFFFFF st))))).map (fun t => (t.getFpr 0, t.cc)) = some (0xC110000000000000, 1) := by decide
theorem test_sd_2 : (ran (.sd 0 0 0 0x800) (withCc 3 (withPm 0xF (mem 0x800 8 0x4E00000080000000 (fr 0 0x4E00000080000000 st))))).map (fun t => (t.getFpr 0, t.cc, t.status)) = some (0x4E00000000000000, 0, .terminated .significance) := by decide
theorem test_md_1 : (ran (.md 0 0 0 0x800) (mem 0x800 8 0x41FFFFFFFFFFFFFF (fr 0 0x41FFFFFFFFFFFFFF st))).map (fun t => t.getFpr 0) = some 0x42FFFFFFFFFFFFFE := by decide
theorem test_dd_1 : (ran (.dd 0 0 0 0x800) (mem 0x800 8 0x8002000010000000 (fr 0 0x0010000080000000 st))).map (fun t => (t.getFpr 0, t.pc)) = some (0xC180000000000000, 0x1004) := by decide
theorem test_aw_1 : (ran (.aw 0 0 0 0x800) (mem 0x800 8 0x4E00000080000000 (fr 0 0xC180000000000000 st))).map (fun t => (t.getFpr 0, t.cc)) = some (0x4E0000007FFFFFF8, 2) := by decide
theorem test_sw_1 : (ran (.sw 2 0 0 0x800) (withPm 0xE (withCc 3 (mem 0x800 8 0x3F11111111111101 (fr 2 0x4001111111111111 st))))).map (fun t => (t.getFpr 2, t.cc)) = some (0x0000000000000000, 0) := by decide
theorem test_sw_2 : (ran (.sw 2 0 0 0x800) (withCc 3 (mem 0x800 8 0x3F11111111111101 (fr 2 0x4001111111111111 st)))).map (fun t => (t.getFpr 2, t.cc, t.status)) = some (0x4000000000000000, 0, .terminated .significance) := by decide
theorem test_ste_1 : (ran (.ste 0 0 0 0x800) (mem 0x800 8 0x7777777777777777 (fr 0 0x0123456789ABCDEF st))).map (fun t => t.value (loc 0x800) 8) = some 0x0123456777777777 := by decide
theorem test_le_1 : (ran (.le 0 0 0 0x800) (mem 0x800 4 0x01234567 (fr 0 0x1111111122222222 st))).map (fun t => t.getFpr 0) = some 0x0123456722222222 := by decide
theorem test_ce_1 : (ran (.ce 6 0 0 0x800) (mem 0x800 4 0x47010001 (fr 6 0x48001000AAAABBBB st))).map (fun t => t.cc) = some 1 := by decide
theorem test_ce_2 : (ran (.ce 6 0 0 0x800) (withCc 3 (mem 0x800 4 0x4610000F (fr 6 0x48001000AAAABBBB st)))).map (fun t => t.cc) = some 0 := by decide
theorem test_ae_1 : (ran (.ae 0 0 0 0x800) (withCc 3 (withPm 0xF (mem 0x800 4 0x41100000 (fr 0 0x41100000AAAABBBB st))))).map (fun t => (t.getFpr 0, t.cc)) = some (0x41200000AAAABBBB, 2) := by decide
theorem test_ae_2 : (ran (.ae 0 0 0 0x800) (withCc 3 (withPm 0xF (mem 0x800 4 0x7F100000 (fr 0 0x7FF00000AAAABBBB st))))).map (fun t => (t.getFpr 0, t.cc, t.status)) = some (0x00100000AAAABBBB, 2, .terminated .exponentOverflow) := by decide
theorem test_se_1 : (ran (.se 0 0 0 0x800) (mem 0x800 4 0x40200000 (fr 0 0x46100000AAAABBBB st))).map (fun t => (t.getFpr 0, t.cc)) = some (0x45FFFFFEAAAABBBB, 2) := by decide
theorem test_me_1 : (ran (.me 0 0 0 0x800) (mem 0x800 4 0x41200000 (fr 0 0x41300000AAAABBBB st))).map (fun t => t.getFpr 0) = some 0x4160000000000000 := by decide
theorem test_de_1 : (ran (.de 0 0 0 0x800) (mem 0x800 4 0x41200000 (fr 0 0x41600000AAAABBBB st))).map (fun t => t.getFpr 0) = some 0x41300000AAAABBBB := by decide
theorem test_au_1 : (ran (.au 0 0 0 0x800) (mem 0x800 4 0xC1010000 (fr 0 0x41100000AAAABBBB st))).map (fun t => (t.getFpr 0, t.cc)) = some (0x410F0000AAAABBBB, 2) := by decide
theorem test_su_1 : (ran (.su 0 0 0 0x800) (mem 0x800 4 0x41100000 (fr 0 0x41300000AAAABBBB st))).map (fun t => (t.getFpr 0, t.cc)) = some (0x41200000AAAABBBB, 2) := by decide
theorem test_bxh_1 : (ran (.bxh 1 2 0 0x800) (gr 3 0x8 (gr 2 0x4 (gr 1 0x8 st)))).map (fun t => (t.getGr 1, t.pc)) = some (0xC, 0x800) := by decide
theorem test_bxh_2 : (ran (.bxh 1 3 0 0x800) (gr 3 0xFFFFFFFF (gr 1 0x0 st))).map (fun t => (t.getGr 1, t.pc)) = some (0xFFFFFFFF, 0x1004) := by decide
theorem test_bxle_1 : (ran (.bxle 2 2 0 0x800) (gr 3 0x5 (gr 2 0x1 st))).map (fun t => (t.getGr 2, t.pc)) = some (0x2, 0x800) := by decide
theorem test_bxle_2 : (ran (.bxle 1 14 0 0x800) (gr 15 0x3 (gr 14 0x2 (gr 1 0x1 st)))).map (fun t => (t.getGr 1, t.pc)) = some (0x3, 0x800) := by decide
theorem test_srl_1 : (ran (.srl 1 0 0x1F) (withCc 2 (gr 1 0x80000001 st))).map (fun t => (t.getGr 1, t.cc)) = some (0x1, 2) := by decide
theorem test_srl_2 : (ran (.srl 1 0 0x3F) (withCc 2 (gr 1 0x80000001 st))).map (fun t => (t.getGr 1, t.cc)) = some (0x0, 2) := by decide
theorem test_sll_1 : (ran (.sll 1 0 1) (withCc 2 (gr 1 0x80000001 st))).map (fun t => (t.getGr 1, t.cc)) = some (0x2, 2) := by decide
theorem test_sll_2 : (ran (.sll 1 0 0x41) (gr 1 0x80000001 st)).map (fun t => t.getGr 1) = some 0x2 := by decide
theorem test_sra_1 : (ran (.sra 1 0 0) (gr 1 0x0 st)).map (fun t => (t.getGr 1, t.cc)) = some (0x0, 0) := by decide
theorem test_sra_2 : (ran (.sra 1 0 2) (gr 1 0xFFFFFFFB st)).map (fun t => (t.getGr 1, t.cc)) = some (0xFFFFFFFE, 1) := by decide
theorem test_sla_1 : (ran (.sla 1 0 0) (gr 1 0x1 st)).map (fun t => (t.getGr 1, t.cc)) = some (0x1, 2) := by decide
theorem test_sla_2 : (ran (.sla 1 0 0x20) (gr 1 0x1 st)).map (fun t => (t.getGr 1, t.cc, t.status)) = some (0x0, 3, .terminated .fixedPointOverflow) := by decide
theorem test_srdl_1 : (ran (.srdl 2 0 0) (withCc 3 (gr 3 0xF000000F (gr 2 0x80000001 st)))).map (fun t => (t.getGr 2, t.getGr 3, t.cc)) = some (0x80000001, 0xF000000F, 3) := by decide
theorem test_srdl_2 : (ran (.srdl 1 0 1) st).map (fun t => t.status) = some (.terminated .specification) := by decide
theorem test_sldl_1 : (ran (.sldl 2 0 0) (withCc 3 (gr 3 0xF000000F (gr 2 0x80000001 st)))).map (fun t => (t.getGr 2, t.getGr 3, t.cc)) = some (0x80000001, 0xF000000F, 3) := by decide
theorem test_srda_1 : (ran (.srda 2 0 0) (withCc 3 (gr 3 0xF000000F (gr 2 0x80000001 st)))).map (fun t => (t.getGr 2, t.getGr 3, t.cc)) = some (0x80000001, 0xF000000F, 1) := by decide
theorem test_slda_1 : (ran (.slda 2 0 0x3F) (gr 3 0x0 (gr 2 0x0 st))).map (fun t => (t.getGr 2, t.getGr 3, t.cc)) = some (0x0, 0x0, 0) := by decide
theorem test_slda_2 : (ran (.slda 2 0 0x20) (gr 3 0x80000000 (gr 2 0x00000000 st))).map (fun t => (t.getGr 2, t.getGr 3, t.cc, t.status)) = some (0x00000000, 0x00000000, 3, .terminated .fixedPointOverflow) := by decide
theorem test_stm_1 : (ran (.stm 15 0 0 0x800) (mem 0x808 1 0x77 (gr 0 0xAA (gr 15 0xF st)))).map (fun t => t.value (loc 0x800) 9) = some 0x0000000F000000AA77 := by decide
theorem test_tm_1 : (ran (.tm 0 0x800 0x87) (withCc 2 (mem 0x800 1 0x87 st))).map (fun t => t.cc) = some 3 := by decide
theorem test_tm_2 : (ran (.tm 0 0x800 1) (withCc 2 (mem 0x800 1 0xFF st))).map (fun t => t.cc) = some 3 := by decide
theorem test_mvi_1 : (ran (.mvi 0 0x800 0x5C) st).map (fun t => t.value (loc 0x800) 1) = some 0x5C := by decide
theorem test_ts_1 : (ran (.ts 0 0x800) (mem 0x800 1 0x80 st)).map (fun t => (t.cc, t.value (loc 0x800) 1)) = some (1, 0xFF) := by decide
theorem test_ts_2 : (ran (.ts 0 0x800) (withCc 3 (mem 0x800 1 0x00 st))).map (fun t => (t.cc, t.value (loc 0x800) 1)) = some (0, 0xFF) := by decide
theorem test_ni_1 : (ran (.ni 0 0x800 0xF) (withCc 3 (mem 0x800 1 0xF0 st))).map (fun t => (t.value (loc 0x800) 1, t.cc)) = some (0x00, 0) := by decide
theorem test_cli_1 : (ran (.cli 0 0x800 0x80) (mem 0x800 1 0x7F st)).map (fun t => t.cc) = some 1 := by decide
theorem test_oi_1 : (ran (.oi 0 0x800 0x80) (mem 0x800 1 0x01 st)).map (fun t => (t.value (loc 0x800) 1, t.cc)) = some (0x81, 1) := by decide
theorem test_xi_1 : (ran (.xi 0 0x800 0xFF) (mem 0x800 1 0x0F st)).map (fun t => (t.value (loc 0x800) 1, t.cc)) = some (0xF0, 1) := by decide
theorem test_lm_1 : (ran (.lm 5 5 0 0x800) (gr 6 0x9 (mem 0x800 4 0x12345678 st))).map (fun t => (t.getGr 5, t.getGr 6)) = some (0x12345678, 0x9) := by decide
theorem test_lm_2 : (ran (.lm 14 1 0 0x800) (mem 0x800 16 0x0000000E0000000F0000000000000001 (gr 2 0x77 st))).map (fun t => (t.getGr 14, t.getGr 15, t.getGr 0, t.getGr 1)) = some (0xE, 0xF, 0x0, 0x1) := by decide
theorem test_lam_1 : (ran (.lam 14 0 1 0) (mem 0x800 12 0x000000010000000200000003 (gr 1 0x800 st))).map (fun t => (t.getAr 14, t.getAr 15, t.getAr 0)) = some (0x1, 0x2, 0x3) := by decide
theorem test_lam_2 : (ran (.lam 14 0 1 2) (gr 1 0x800 st)).map (fun t => t.status) = some (.terminated .specification) := by decide
theorem test_stam_1 : (ran (.stam 14 0 1 0) (ar 0 0x3 (ar 15 0x2 (ar 14 0x1 (gr 1 0x800 st))))).map (fun t => t.value (loc 0x800) 12) = some 0x000000010000000200000003 := by decide
theorem test_mc_1 : (ran (.mc 0 0 0xF) st).map (fun t => t.pc) = some 0x1004 := by decide
theorem test_mc_2 : (ran (.mc 0 0 0x10) st).map (fun t => t.status) = some (.terminated .specification) := by decide
theorem test_stck_1 : (ran (.stck 0 0x800) (withCc 3 st)).map (fun t => t.cc) = some 0 := by decide
theorem test_sac_1 : (ran (.sac 0 0x200) st).map (fun t => t.asc) = some true := by decide
theorem test_sac_2 : (ran (.sac 0 0) (withAsc st)).map (fun t => t.asc) = some false := by decide
theorem test_ipm_1 : (ran (.ipm 5) (gr 5 0xFFFFFFFF (withPm 0xA (withCc 2 st)))).map (fun t => t.getGr 5) = some 0x2AFFFFFF := by decide
theorem test_iac_1 : (ran (.iac 5) (withCc 3 (gr 5 0xFFFFFFFF st))).map (fun t => (t.getGr 5, t.cc)) = some (0xFFFF00FF, 0) := by decide
theorem test_iac_2 : (ran (.iac 5) (withCc 3 (gr 5 0xFFFFFFFF (withAsc st)))).map (fun t => (t.getGr 5, t.cc)) = some (0xFFFF02FF, 2) := by decide
theorem test_dxr_1 : (ran (.dxr 0 4) (fr 6 0x0000000000000000 (fr 4 0x4130000000000000 (fr 2 0x0000000000000000 (fr 0 0x4110000000000000 st))))).map (fun t => (t.getFpr 0, t.getFpr 2)) = some (0x4055555555555555, 0x3255555555555555) := by decide
theorem test_tar_1 : (ran (.tar 3 0) (withCc 3 st)).map (fun t => t.cc) = some 0 := by decide
theorem test_tar_2 : (ran (.tar 3 0) (ar 3 0x8 st)).map (fun t => t.cc) = some 1 := by decide
theorem test_cpya_1 : (ran (.cpya 3 5) (ar 5 0x10003 st)).map (fun t => t.getAr 3) = some 0x10003 := by decide
theorem test_sar_1 : (ran (.sar 3 5) (gr 5 0x10003 st)).map (fun t => t.getAr 3) = some 0x10003 := by decide
theorem test_ear_1 : (ran (.ear 3 5) (ar 5 0x10003 st)).map (fun t => t.getGr 3) = some 0x10003 := by decide
theorem test_cs_1 : (ran (.cs 1 3 0 0x800) (mem 0x800 4 0x00000006 (gr 3 0x7 (gr 1 0x5 st)))).map (fun t => (t.getGr 1, t.cc, t.value (loc 0x800) 4)) = some (0x6, 1, 0x00000006) := by decide
theorem test_cs_2 : (ran (.cs 1 3 0 0x800) (withCc 3 (mem 0x800 4 0x00000005 (gr 3 0x7 (gr 1 0x5 st))))).map (fun t => (t.value (loc 0x800) 4, t.cc, t.getGr 1)) = some (0x00000007, 0, 0x5) := by decide
theorem test_cds_1 : (ran (.cds 2 4 0 0x800) (withCc 3 (mem 0x800 8 0x0000000100000002 (gr 5 0xB (gr 4 0xA (gr 3 0x2 (gr 2 0x1 st))))))).map (fun t => (t.value (loc 0x800) 8, t.cc)) = some (0x0000000A0000000B, 0) := by decide
theorem test_cds_2 : (ran (.cds 3 4 0 0x800) st).map (fun t => t.status) = some (.terminated .specification) := by decide
theorem test_clm_1 : (ran (.clm 1 0 0 0x800) (withCc 3 st)).map (fun t => t.cc) = some 0 := by decide
theorem test_clm_2 : (ran (.clm 1 1 0 0x800) (mem 0x800 1 0x01 (gr 1 0xFF st))).map (fun t => t.cc) = some 2 := by decide
theorem test_stcm_1 : (ran (.stcm 1 0 5 0) (gr 5 0x5000 st)).map (fun t => t.pc) = some 0x1004 := by decide
theorem test_stcm_2 : (ran (.stcm 1 0 0 0x801) (mem 0x800 8 0xEEEEEEEEEEEEEEEE (gr 1 0x11223344 st))).map (fun t => t.value (loc 0x800) 8) = some 0xEEEEEEEEEEEEEEEE := by decide
theorem test_icm_1 : (ran (.icm 1 15 0 0x801) (gr 1 0x5 st)).map (fun t => (t.getGr 1, t.cc)) = some (0x0, 0) := by decide
theorem test_icm_2 : (ran (.icm 1 0 5 0) (gr 5 0x5000 (withCc 3 (gr 1 0x11223344 st)))).map (fun t => (t.getGr 1, t.cc, t.status)) = some (0x11223344, 3, .terminated .addressTranslation) := by decide
theorem test_mvn_1 : (ran (.mvn 3 0 0x800 0 0x810) (mem 0x810 3 0x123456 (mem 0x800 3 0xABCDEF st))).map (fun t => t.value (loc 0x800) 3) = some 0xA2C4E6 := by decide
theorem test_mvc_1 : (ran (.mvc 4 2 0 0 0x810) (mem 0x810 4 0x01020304 (gr 2 0xFFFFFE st))).map (fun t => (t.value (loc 0xFFFFFE) 2, t.value (loc 0x0) 2)) = some (0x0102, 0x0304) := by decide
theorem test_mvc_2 : (ran (.mvc 4 2 0xFFE 0 0x810) (mem 0x810 4 0x01020304 (gr 2 0x2000 st))).map (fun t => (t.value (loc 0x2FFE) 2, t.status)) = some (0x0000, .terminated .addressTranslation) := by decide
theorem test_mvz_1 : (ran (.mvz 3 0 0x800 0 0x810) (mem 0x810 3 0x123456 (mem 0x800 3 0xABCDEF st))).map (fun t => t.value (loc 0x800) 3) = some 0x1B3D5F := by decide
theorem test_nc_1 : (ran (.nc 3 0 0x800 0 0x810) (mem 0x810 3 0x0FFF0F (mem 0x800 3 0xFF00F0 st))).map (fun t => (t.value (loc 0x800) 3, t.cc)) = some (0x0F0000, 1) := by decide
theorem test_clc_1 : (ran (.clc 3 0 0x800 0 0x800) (withCc 3 (mem 0x800 3 0x010203 st))).map (fun t => t.cc) = some 0 := by decide
theorem test_clc_2 : (ran (.clc 3 0 0x800 0 0x810) (mem 0x810 3 0x0102FF (mem 0x800 3 0x010203 st))).map (fun t => t.cc) = some 1 := by decide
theorem test_oc_1 : (ran (.oc 3 0 0x800 0 0x810) (mem 0x810 3 0x0FFF0F (mem 0x800 3 0xFF00F0 st))).map (fun t => (t.value (loc 0x800) 3, t.cc)) = some (0xFFFFFF, 1) := by decide
theorem test_xc_1 : (ran (.xc 3 0 0x801 0 0x800) (mem 0x800 4 0x01020408 st)).map (fun t => (t.value (loc 0x800) 4, t.cc)) = some (0x0103070F, 1) := by decide
theorem test_tr_1 : (ran (.tr 2 0 0x800 0 0x800) (mem 0x800 2 0x0100 st)).map (fun t => t.value (loc 0x800) 2) = some 0x0000 := by decide
theorem test_trt_1 : (ran (.trt 4 0 0x800 0 0x900) (gr 2 0xBBBBBBBB (gr 1 0xAA000000 (mem 0x94E 1 0x01 (mem 0x800 4 0xF1F24EF3 st))))).map (fun t => (t.getGr 1, t.getGr 2, t.cc)) = some (0xAA000802, 0xBBBBBB01, 1) := by decide
theorem test_trt_2 : (ran (.trt 4 0 0x800 0 0x900) (withAmode (gr 2 0xBBBBBBBB (gr 1 0xAA000000 (mem 0x94E 1 0x01 (mem 0x800 4 0xF1F24EF3 st)))))).map (fun t => (t.getGr 1, t.getGr 2, t.cc)) = some (0x00000802, 0xBBBBBB01, 1) := by decide
theorem test_ed_1 : (ran (.ed 7 0 0x800 0 0x810) (withCc 3 (mem 0x810 3 0x12345C (mem 0x800 7 0x402020214B2020 st)))).map (fun t => (t.value (loc 0x800) 7, t.cc)) = some (0x40F1F2F34BF4F5, 2) := by decide
theorem test_ed_2 : (ran (.ed 5 0 0x800 0 0x810) (withCc 3 (mem 0x810 2 0x123D (mem 0x800 5 0x4020202060 st)))).map (fun t => (t.value (loc 0x800) 5, t.cc)) = some (0x40F1F2F360, 1) := by decide
theorem test_edmk_1 : (ran (.edmk 7 0 0x800 0 0x810) (gr 1 0xAABBCCDD (mem 0x810 3 0x12345C (mem 0x800 7 0x402020214B2020 st)))).map (fun t => (t.value (loc 0x800) 7, t.getGr 1)) = some (0x40F1F2F34BF4F5, 0xAA000801) := by decide
theorem test_edmk_2 : (ran (.edmk 7 0 0x800 0 0x810) (withAmode (gr 1 0xAABBCCDD (mem 0x810 3 0x00100C (mem 0x800 7 0x402020214B2020 st))))).map (fun t => (t.value (loc 0x800) 7, t.getGr 1)) = some (0x404040F14BF0F0, 0x80000803) := by decide
theorem test_srp_1 : (ran (.srp 2 0 0x800 0 0x3F 5) (mem 0x800 2 0x995C st)).map (fun t => (t.value (loc 0x800) 2, t.cc)) = some (0x100C, 2) := by decide
theorem test_srp_2 : (ran (.srp 2 0 0x800 0 3 0) (mem 0x800 2 0x001D st)).map (fun t => (t.value (loc 0x800) 2, t.cc, t.status)) = some (0x000D, 3, .terminated .decimalOverflow) := by decide
theorem test_mvo_1 : (ran (.mvo 3 1 0 0x800 0 0x800) (mem 0x800 3 0xABCDEF st)).map (fun t => t.value (loc 0x800) 3) = some 0x000ABF := by decide
theorem test_mvo_2 : (ran (.mvo 3 3 0 0x800 0 0x810) (mem 0x810 3 0x123456 (mem 0x800 3 0x00000C st))).map (fun t => t.value (loc 0x800) 3) = some 0x23456C := by decide
theorem test_pack_1 : (ran (.pack 1 1 0 0x800 0 0x800) (mem 0x800 1 0x89 st)).map (fun t => t.value (loc 0x800) 1) = some 0x98 := by decide
theorem test_pack_2 : (ran (.pack 2 4 0 0x800 0 0x800) (mem 0x800 4 0x23456789 st)).map (fun t => t.value (loc 0x800) 4) = some 0x87986789 := by decide
theorem test_unpk_1 : (ran (.unpk 1 1 0 0x800 0 0x800) (mem 0x800 1 0x89 st)).map (fun t => t.value (loc 0x800) 1) = some 0x98 := by decide
theorem test_unpk_2 : (ran (.unpk 4 4 0 0x800 0 0x800) (mem 0x800 4 0x23456789 st)).map (fun t => t.value (loc 0x800) 4) = some 0xF6F6F798 := by decide
theorem test_zap_1 : (ran (.zap 2 1 0 0x800 0 0x810) (withCc 1 (mem 0x810 1 0x0D (mem 0x800 2 0xFFFF st)))).map (fun t => (t.value (loc 0x800) 2, t.cc)) = some (0x000C, 0) := by decide
theorem test_zap_2 : (ran (.zap 3 1 0 0x800 0 0x810) (withCc 1 (mem 0x810 1 0xA5 (mem 0x800 3 0xFFFFFF st)))).map (fun t => (t.value (loc 0x800) 3, t.cc, t.status)) = some (0xFFFFFF, 1, .terminated .data) := by decide
theorem test_cp_1 : (ran (.cp 1 2 0 0x800 0 0x810) (withCc 1 (mem 0x810 2 0x010C (mem 0x800 1 0x9C st)))).map (fun t => (t.value (loc 0x800) 1, t.cc)) = some (0x9C, 1) := by decide
theorem test_ap_1 : (ran (.ap 2 2 0 0x800 0 0x800) (mem 0x800 2 0x123C st)).map (fun t => (t.value (loc 0x800) 2, t.cc)) = some (0x246C, 2) := by decide
theorem test_ap_2 : (ran (.ap 2 1 0 0x800 0 0x810) (withCc 1 (mem 0x810 1 0x1C (mem 0x800 2 0x999C st)))).map (fun t => (t.value (loc 0x800) 2, t.cc, t.status)) = some (0x000C, 3, .terminated .decimalOverflow) := by decide
theorem test_sp_1 : (ran (.sp 1 2 0 0x800 0 0x810) (withCc 1 (mem 0x810 2 0x010D (mem 0x800 1 0x2D st)))).map (fun t => (t.value (loc 0x800) 1, t.cc)) = some (0x8C, 2) := by decide
theorem test_sp_2 : (ran (.sp 2 1 0 0x800 0 0x810) (withCc 1 (mem 0x810 1 0x1C (mem 0x800 2 0x999D st)))).map (fun t => (t.value (loc 0x800) 2, t.cc, t.status)) = some (0x000D, 3, .terminated .decimalOverflow) := by decide
theorem test_mp_1 : (ran (.mp 2 1 0 0x800 0 0x810) (withCc 1 (mem 0x810 1 0x2C (mem 0x800 2 0x009D st)))).map (fun t => (t.value (loc 0x800) 2, t.cc)) = some (0x018D, 1) := by decide
theorem test_mp_2 : (ran (.mp 4 2 0 0x800 0 0x810) (withCc 1 (mem 0x810 2 0x999D (mem 0x800 4 0x0009999C st)))).map (fun t => (t.value (loc 0x800) 4, t.cc, t.status)) = some (0x0009999C, 1, .terminated .data) := by decide
theorem test_dp_1 : (ran (.dp 4 2 0 0x800 0 0x810) (withCc 1 (mem 0x810 2 0x001C (mem 0x800 4 0x0000999C st)))).map (fun t => (t.value (loc 0x800) 4, t.cc)) = some (0x999C000C, 1) := by decide
theorem test_dp_2 : (ran (.dp 4 4 0 0x800 0 0x810) (withCc 1 (mem 0x810 1 0x00 (mem 0x800 1 0x00 st)))).map (fun t => (t.value (loc 0x800) 1, t.cc, t.status)) = some (0x00, 1, .terminated .specification) := by decide
end Sys2Proof.Tests
end

section
/-! Proofs about spec/20_memory.md: the effective address of R54. -/

namespace Sys2Proof.Machine

/-! ## The effective address -/

theorem State.regOrZero_toNat (s : State) (r : Reg) :
    (s.regOrZero r).toNat = if r = 0 then 0 else (s.getGr r).toNat := by
  unfold State.regOrZero
  split <;> rfl

/-- The sum before truncation wraps at the width of a word only. -/
theorem State.addrSum_toNat (s : State) (x b : Reg) (d : Disp) :
    (s.addrSum x b d).toNat = ((s.regOrZero x).toNat + (s.regOrZero b).toNat + d.toNat) % 2 ^ 32 := by
  have hd : (d.zeroExtend 32).toNat = d.toNat := BitVec.toNat_setWidth_of_le (by decide)
  rw [State.addrSum, BitVec.toNat_add, BitVec.toNat_add, hd, Nat.mod_add_mod]

/-- The wrap at 2^32 is not seen in the address: both sizes of R54 divide 2^32. -/
theorem State.addrx_toNat (s : State) (x b : Reg) (d : Disp) :
    (s.addrx x b d).toNat =
      ((s.regOrZero x).toNat + (s.regOrZero b).toNat + d.toNat) % (if s.amode then 2 ^ 31 else 2 ^ 24) := by
  have hdvd : (if s.amode then 2 ^ 31 else 2 ^ 24) ∣ 2 ^ 32 := by split <;> decide
  rw [State.addrx, trunc_toNat, State.addrSum_toNat]
  exact Nat.mod_mod_of_dvd _ hdvd

/-- The operand forms D(X,B) and D(B) are at the effective address, D(B) with an index field of 0. -/
@[simp] theorem State.opX_addr (s : State) (x b : Reg) (d : Disp) : (s.opX x b d).addr = s.addrx x b d := rfl

@[simp] theorem State.opB_addr (s : State) (b : Reg) (d : Disp) : (s.opB b d).addr = s.addrx 0 b d := rfl

/-- Settles O12: the address by `State.addrx_toNat`, its two registers by `State.regOrZero_toNat`. -/
theorem effectiveAddressIsTheTruncatedSum : Obligations.EffectiveAddressIsTheTruncatedSum := by
  intro s x b d
  refine ⟨s.opX_addr x b d, s.opB_addr b d, ?_⟩
  rw [State.addrx_toNat, State.regOrZero_toNat, State.regOrZero_toNat]

end Sys2Proof.Machine
end

section
/-! Proofs about spec/40_general_a_to_b.md: the signed fixed-point arithmetic of R131 between two general registers,
with SR (R271), LCR (R211), LPR (R215) and LNR (R214). -/

namespace Sys2Proof.Machine

/-! ## The words of type RR -/

@[simp] theorem hiNibble_nibbles (hi lo : Nibble) : hiNibble (nibbles hi lo) = hi := BitVec.extractLsb'_append_eq_left

@[simp] theorem loNibble_nibbles (hi lo : Nibble) : loNibble (nibbles hi lo) = lo := BitVec.extractLsb'_append_eq_right

/-- R92 and R115: a first byte below X'40' takes two bytes, which type RR decodes. -/
theorem decode_of_decodeRR {b0 b1 : Byte} {i : Instr} (hb : b0.toNat < 64) (hi : decodeRR b0 b1 = some i) (rest : List Byte) :
    decode (b0 :: b1 :: rest) = .ok (i, rest) := by
  simp only [decode, if_pos hb, hi, decoded]

/-! ## The end of an operation with an exact result -/

theorem fits32_iff (v : Int) : fits32 v = true ↔ -2 ^ 31 ≤ v ∧ v ≤ 2 ^ 31 - 1 := by
  rw [fits32, Bool.and_eq_true, decide_eq_true_iff, decide_eq_true_iff]
  norm_num

/-- A completing interruption that is masked is taken after the instruction where its mask bit is 1, and else not at all, R455. -/
theorem State.complete_masked (s : State) (len : Nat) (bit : Bool) (k : Interruption) :
    s.complete len (masked bit k) = if bit then (s.advance len).interrupt k else .next (s.advance len) := by
  cases bit <;> rfl

/-- R131 where the exact result fits: the result, CC by its sign, no interruption. -/
theorem State.fixedResult_of_fits (s : State) (r1 : Reg) {v : Int} (len : Nat) (hlo : -2 ^ 31 ≤ v) (hhi : v ≤ 2 ^ 31 - 1) :
    s.fixedResult r1 v len = .next { s.setGr r1 (BitVec.ofInt 32 v) with
      cc := if v = 0 then 0 else if v < 0 then 1 else 2, pc := s.nextAddr len } := by
  have hfit : fits32 v = true := (fits32_iff v).mpr ⟨hlo, hhi⟩
  rw [State.fixedResult, hfit]
  rfl

/-- R131 where the exact result does not fit: its low 32 bits, CC 3, and the overflow after both are written. -/
theorem State.fixedResult_of_overflow (s : State) (r1 : Reg) {v : Int} (len : Nat) (hover : v < -2 ^ 31 ∨ 2 ^ 31 - 1 < v) :
    s.fixedResult r1 v len =
      if s.pm.getMsbD 0 then
        ({ s.setGr r1 (BitVec.ofInt 32 v) with cc := 3, pc := s.nextAddr len } : State).interrupt .fixedPointOverflow
      else .next { s.setGr r1 (BitVec.ofInt 32 v) with cc := 3, pc := s.nextAddr len } := by
  have hfit : fits32 v = false := by
    rw [Bool.eq_false_iff, Ne, fits32_iff]
    omega
  rw [State.fixedResult, hfit]
  exact State.complete_masked _ len s.maskFixed .fixedPointOverflow

/-! ## The five instructions: the word of each, and its exact result -/

theorem decode_ar (r1 r2 : Reg) : decode [0x1A, nibbles r1 r2] = .ok (.ar r1 r2, []) :=
  decode_of_decodeRR (by decide) (by simp [decodeRR]) []

theorem decode_sr (r1 r2 : Reg) : decode [0x1B, nibbles r1 r2] = .ok (.sr r1 r2, []) :=
  decode_of_decodeRR (by decide) (by simp [decodeRR]) []

theorem decode_lcr (r1 r2 : Reg) : decode [0x13, nibbles r1 r2] = .ok (.lcr r1 r2, []) :=
  decode_of_decodeRR (by decide) (by simp [decodeRR]) []

theorem decode_lpr (r1 r2 : Reg) : decode [0x10, nibbles r1 r2] = .ok (.lpr r1 r2, []) :=
  decode_of_decodeRR (by decide) (by simp [decodeRR]) []

theorem decode_lnr (r1 r2 : Reg) : decode [0x11, nibbles r1 r2] = .ok (.lnr r1 r2, []) :=
  decode_of_decodeRR (by decide) (by simp [decodeRR]) []

theorem exec_ar (r1 r2 : Reg) (s : State) :
    exec (.ar r1 r2) s = s.fixedResult r1 ((s.getGr r1).toInt + (s.getGr r2).toInt) 2 := rfl

theorem exec_sr (r1 r2 : Reg) (s : State) :
    exec (.sr r1 r2) s = s.fixedResult r1 ((s.getGr r1).toInt - (s.getGr r2).toInt) 2 := rfl

theorem exec_lcr (r1 r2 : Reg) (s : State) : exec (.lcr r1 r2) s = s.fixedResult r1 (-(s.getGr r2).toInt) 2 := rfl

theorem exec_lpr (r1 r2 : Reg) (s : State) : exec (.lpr r1 r2) s = s.fixedResult r1 |(s.getGr r2).toInt| 2 := by
  rw [Int.abs_eq_natAbs]
  rfl

theorem exec_lnr (r1 r2 : Reg) (s : State) : exec (.lnr r1 r2) s = s.fixedResult r1 (-|(s.getGr r2).toInt|) 2 := by
  rw [Int.abs_eq_natAbs]
  rfl

/-- Settles O15: each of the five decodes and ends in R131 with its exact result; the two clauses are the two cases of R131. -/
theorem signedRegisterArithmetic : Obligations.SignedRegisterArithmetic := by
  intro s r1 r2 c hc
  have meaning : decode [c.1, nibbles r1 r2] = .ok (c.2.1, []) ∧ exec c.2.1 s = s.fixedResult r1 c.2.2 2 := by
    simp only [List.mem_cons, List.not_mem_nil, or_false] at hc
    obtain rfl | rfl | rfl | rfl | rfl := hc
    · exact ⟨decode_ar r1 r2, exec_ar r1 r2 s⟩
    · exact ⟨decode_sr r1 r2, exec_sr r1 r2 s⟩
    · exact ⟨decode_lcr r1 r2, exec_lcr r1 r2 s⟩
    · exact ⟨decode_lpr r1 r2, exec_lpr r1 r2 s⟩
    · exact ⟨decode_lnr r1 r2, exec_lnr r1 r2 s⟩
  obtain ⟨hdecode, hexec⟩ := meaning
  refine ⟨hdecode, fun hlo hhi => ?_, fun hover => ?_⟩
  · rw [hexec, State.fixedResult_of_fits s r1 2 hlo hhi]
  · rw [hexec, State.fixedResult_of_overflow s r1 2 hover]

end Sys2Proof.Machine
end

section
/-! Proofs about spec/44_general_s.md: SPM (R281), with IPM (R207), which puts back what SPM takes. -/

namespace Sys2Proof.Machine

/-! ## The words of the two instructions -/

/-- R92 and R115: a first byte from X'80' to X'BF' takes four bytes, which type RS and the codes X'B2' decode. -/
theorem decode_of_decodeRS {b0 b1 b2 b3 : Byte} {i : Instr} (hlo : 128 ≤ b0.toNat) (hhi : b0.toNat < 192)
    (hi : decodeRS b0 b1 b2 b3 = some i) (rest : List Byte) : decode (b0 :: b1 :: b2 :: b3 :: rest) = .ok (i, rest) := by
  have hnotRR : ¬ b0.toNat < 64 := by omega
  have hnotRX : ¬ b0.toNat < 128 := by omega
  simp only [decode, if_neg hnotRR, if_neg hnotRX, if_pos hhi, hi, decoded]

/-- R108: bits 12 to 15 of SPM, here `q`, are ignored. -/
theorem decode_spm (r1 q : Reg) : decode [0x04, nibbles r1 q] = .ok (.spm r1, []) :=
  decode_of_decodeRR (by decide) (by simp [decodeRR]) []

/-- R108: bits 16 to 23 of IPM, here `z`, and bits 28 to 31, here `q`, are ignored. -/
theorem decode_ipm (r1 q : Reg) (z : Byte) : decode [0xB2, 0x22, z, nibbles r1 q] = .ok (.ipm r1, []) :=
  decode_of_decodeRS (by decide) (by decide) (by simp [decodeRS, decodeB2]) []

/-! ## Fields of a word as numbers -/

/-- A field that ends at bit k from the right is what remains after a division by 2^k. -/
theorem extractLsb'_eq_ofNat_div {w : Nat} (x : BitVec w) (k n : Nat) :
    x.extractLsb' k n = BitVec.ofNat n (x.toNat / 2 ^ k) := by
  rw [BitVec.extractLsb', Nat.shiftRight_eq_div_pow]

theorem toNat_append_eq_add {m n : Nat} (x : BitVec m) (y : BitVec n) : (x ++ y).toNat = x.toNat * 2 ^ n + y.toNat := by
  rw [BitVec.toNat_append, ← Nat.shiftLeft_add_eq_or_of_lt y.isLt, Nat.shiftLeft_eq]

/-- The layout of R207 as a number: zeros, CC, program mask, and the low 24 bits of the old word. -/
theorem programMaskWord_eq_ofNat (cc : BitVec 2) (pm : BitVec 4) (w : Word) :
    (0 : BitVec 2) ++ (cc ++ (pm ++ w.extractLsb' 0 24)) =
      BitVec.ofNat 32 (cc.toNat * 2 ^ 28 + pm.toNat * 2 ^ 24 + w.toNat % 2 ^ 24) := by
  have hzeros : (0 : BitVec 2).toNat = 0 := rfl
  have hlow : (w.extractLsb' 0 24).toNat = w.toNat % 2 ^ 24 := by
    rw [BitVec.extractLsb'_toNat, Nat.shiftRight_zero]
  refine BitVec.eq_of_toNat_eq ?_
  rw [toNat_append_eq_add, toNat_append_eq_add, toNat_append_eq_add, hzeros, hlow, BitVec.toNat_ofNat]
  omega

/-! ## The next states -/

theorem exec_spm (r1 : Reg) (s : State) :
    exec (.spm r1) s = .next { s with
      cc := BitVec.ofNat 2 ((s.getGr r1).toNat / 2 ^ 28), pm := BitVec.ofNat 4 ((s.getGr r1).toNat / 2 ^ 24),
      pc := s.nextAddr 2 } := by
  rw [← extractLsb'_eq_ofNat_div, ← extractLsb'_eq_ofNat_div]
  rfl

theorem exec_ipm (r1 : Reg) (s : State) :
    exec (.ipm r1) s = .next { s.setGr r1 (BitVec.ofNat 32
      (s.cc.toNat * 2 ^ 28 + s.pm.toNat * 2 ^ 24 + (s.getGr r1).toNat % 2 ^ 24)) with pc := s.nextAddr 4 } := by
  rw [← programMaskWord_eq_ofNat]
  rfl

/-- Settles O34: the word and the next state of each of the two instructions. -/
theorem programMaskToAndFromARegister : Obligations.ProgramMaskToAndFromARegister := by
  intro s r1 q z
  exact ⟨decode_spm r1 q, exec_spm r1 s, decode_ipm r1 q z, exec_ipm r1 s⟩

end Sys2Proof.Machine
end

section
/-! Proofs about spec/10_state.md and spec/20_memory.md: what an instruction may change at all. Each instruction is given a permit,
the parts of the state that R13 to R19 let it write; every shared operation keeps to a permit, and so does every instruction. -/

namespace Sys2Proof.Machine

/-! ## Keeping to a permit -/

/-- The parts of the state that only some instructions may write, and whether the instruction is well-formed. (An MVO, PACK or UNPK
of length 0, which no word encodes, stores a byte that it has not checked.) -/
structure Permit where
  wf : Bool
  ar : Bool
  asc : Bool
  amode : Bool
  pm : Bool
  fpr : Bool

/-- What R13, R14, R17 to R19 and R113 allow an instruction in a state. -/
def State.permit (s : State) (i : Instr) : Permit :=
  { wf := i.wf, ar := writesAr i && s.cfg.hasEsa, asc := writesAsc i && s.cfg.hasEsa, amode := writesAmode i && s.cfg.has31Bit,
    pm := writesPm i, fpr := isFloating i }

/-- How a state may differ from an earlier one under a permit: the system's parts stay, the clock does not fall, storage changes only
where it is allocated for writing, and the canonical forms of storage and instruction address are kept. -/
structure Within (m : Permit) (s t : State) : Prop where
  cfg : t.cfg = s.cfg
  pages : t.pages = s.pages
  accessList : t.accessList = s.accessList
  stxit : t.stxit = s.stxit
  tod : s.tod.toNat ≤ t.tod.toNat
  viaEx : t.viaEx = s.viaEx ∨ t.viaEx = false
  ar : m.ar = false → t.ar = s.ar
  asc : m.asc = false → t.asc = s.asc
  amode : m.amode = false → t.amode = s.amode
  pm : m.pm = false → t.pm = s.pm
  fpr : m.fpr = false → t.fpr = s.fpr
  pc : trunc s.amode s.pc = s.pc → trunc t.amode t.pc = t.pc
  mem : Memory.wf s.mem → Memory.wf t.mem
  writable : m.wf = true → ∀ k, t.mem.get k ≠ s.mem.get k → s.KeyWritable k

/-- An instruction keeps to a permit where every next state that it answers does. -/
def Keeps (m : Permit) (s : State) (r : Result) : Prop := ∀ t, r = .next t → Within m s t

theorem Within.refl {m : Permit} {s : State} : Within m s s :=
  { cfg := rfl, pages := rfl, accessList := rfl, stxit := rfl, tod := le_rfl, viaEx := .inl rfl, ar := fun _ => rfl,
    asc := fun _ => rfl, amode := fun _ => rfl, pm := fun _ => rfl, fpr := fun _ => rfl, pc := id, mem := id,
    writable := fun _ _ h => absurd rfl h }

/-! ## Updates of the state -/

section Updates

variable {m : Permit} {s t : State}

theorem trunc_trunc (amode : Bool) (a : Word) : trunc amode (trunc amode a) = trunc amode a := by
  rw [trunc, trunc, BitVec.and_assoc, BitVec.and_self]

theorem Within.setGr (h : Within m s t) (r : Reg) (v : Word) : Within m s (t.setGr r v) := { h with }

theorem Within.setCc (h : Within m s t) (c : BitVec 2) : Within m s (t.setCc c) := { h with }

theorem Within.useFree (h : Within m s t) : Within m s t.useFree := { h with }

theorem Within.withStatus (h : Within m s t) (k : RunStatus) : Within m s { t with status := k } := { h with }

theorem Within.advance (h : Within m s t) (n : Nat) : Within m s (t.advance n) := { h with pc := fun _ => trunc_trunc _ _ }

theorem Within.branch (h : Within m s t) (a : Word) : Within m s (t.branch a) := { h with pc := fun _ => trunc_trunc _ _ }

theorem Within.withService (h : Within m s t) (c : Byte) (k : RunStatus) : Within m s { t with svcCode := c, status := k } :=
  { h with }

theorem Within.withClock (h : Within m s t) {d : Dword} (hd : s.tod.toNat ≤ d.toNat) (c : BitVec 2) :
    Within m s { t with tod := d, cc := c } := { h with tod := hd }

theorem Within.withMask (h : Within m s t) (hm : m.pm = true) (c : BitVec 2) (p : BitVec 4) :
    Within m s { t with cc := c, pm := p } := { h with pm := fun hn => absurd hm (by simp [hn]) }

theorem Within.withAsc (h : Within m s t) (hm : m.asc = true) (b : Bool) : Within m s { t with asc := b } :=
  { h with asc := fun hn => absurd hm (by simp [hn]) }

theorem Within.setAr (h : Within m s t) (hm : m.ar = true) (r : Reg) (v : Word) : Within m s (t.setAr r v) :=
  { h with ar := fun hn => absurd hm (by simp [hn]) }

theorem Within.setFpr (h : Within m s t) (hm : m.fpr = true) (r : Reg) (v : Dword) : Within m s (t.setFpr r v) :=
  { h with fpr := fun hn => absurd hm (by simp [hn]) }

theorem Within.setShort (h : Within m s t) (hm : m.fpr = true) (r : Reg) (v : Word) : Within m s (t.setShort r v) :=
  h.setFpr hm r _

theorem Within.setExt (h : Within m s t) (hm : m.fpr = true) (r : Reg) (v : Qword) : Within m s (t.setExt r v) :=
  (h.setFpr hm r _).setFpr hm _ _

theorem Within.setPair (h : Within m s t) (r : Reg) (v : Dword) : Within m s (t.setPair r v) := (h.setGr r _).setGr _ _

theorem Within.setGrRange (h : Within m s t) (r : Reg) (n v : Nat) : Within m s (t.setGrRange r n v) := by
  induction n generalizing v with
  | zero => exact h
  | succ n ih => exact (ih _).setGr _ _

theorem Within.setArRange (h : Within m s t) (hm : m.ar = true) (r : Reg) (n v : Nat) : Within m s (t.setArRange r n v) := by
  induction n generalizing v with
  | zero => exact h
  | succ n ih => exact (ih _).setAr hm _ _

theorem Within.longProgress (h : Within m s t) (u : State) (r1 r2 : Reg) (k1 k2 : Nat) :
    Within m s (u.longProgress t r1 r2 k1 k2) :=
  (((h.setGr _ _).setGr _ _).setGr _ _).setGr _ _

/-! ### Storage -/

theorem State.pageWritable_iff (s : State) (sp p : Nat) :
    s.pageWritable sp p = true ↔ ∃ e ∈ s.pages, e.writable = true ∧ e.space = sp ∧ e.page = p := by
  simp only [State.pageWritable, List.any_eq_true, Bool.and_eq_true, beq_iff_eq]
  constructor
  · rintro ⟨e, he, ⟨hs, hp⟩, hw⟩
    exact ⟨e, he, hw, hs, hp⟩
  · rintro ⟨e, he, hw, hs, hp⟩
    exact ⟨e, he, ⟨hs, hp⟩, hw⟩

/-- An update may be made where a write may, R61. -/
theorem State.byteAllowed_write_of_update {s : State} {l : Loc} {i : Nat} (h : s.byteAllowed .update l i = true) :
    s.byteAllowed .write l i = true := by
  unfold State.byteAllowed at h ⊢
  cases hl : l.space with
  | none => simp [hl] at h
  | some sp =>
    simp only [hl, State.addrAllowed_update, Bool.and_eq_true] at h
    exact h.2

/-- Where a byte of an operand may be written, its page is allocated for it. -/
theorem State.keyWritable_of_byteAllowed {s : State} {l : Loc} {i k : Nat} (h : s.byteAllowed .write l i = true)
    (hk : l.key i = some k) : s.KeyWritable k := by
  obtain ⟨sp, hsp⟩ := State.space_of_byteAllowed h
  have hat := l.at_lt i
  simp only [Loc.key, hsp, Option.map_some, Option.some.injEq, memKey] at hk
  simp only [State.byteAllowed, hsp, State.addrAllowed, State.pageAllows, Bool.and_eq_true, State.pageWritable_iff] at h
  obtain ⟨-, e, he, hw, hes, hep⟩ := h
  exact ⟨e, he, hw, by omega, by omega⟩

/-- Access depends on the parameters and the pages only. -/
theorem State.byteAllowed_congr {s t : State} (hc : t.cfg = s.cfg) (hp : t.pages = s.pages) (k : Access) (l : Loc) (i : Nat) :
    t.byteAllowed k l i = s.byteAllowed k l i := by
  unfold State.byteAllowed
  cases l.space with
  | none => rfl
  | some sp => cases k <;> simp only [State.addrAllowed, State.pageAllows, State.pageReadable, State.pageWritable, hc, hp]

theorem Within.byteAllowed (h : Within m s t) (k : Access) (l : Loc) (i : Nat) : t.byteAllowed k l i = s.byteAllowed k l i :=
  State.byteAllowed_congr h.cfg h.pages k l i

/-- The first n bytes of an operand may be written. -/
def State.MayWrite (s : State) (l : Loc) (n : Nat) : Prop := ∀ i < n, s.byteAllowed .write l i = true

theorem State.mayWrite_of_allows_write {l : Loc} {n : Nat} (h : s.allows .write l n = true) : s.MayWrite l n :=
  (State.allows_iff _ _ _ _).1 h

theorem State.mayWrite_of_allows_update {l : Loc} {n : Nat} (h : s.allows .update l n = true) : s.MayWrite l n :=
  fun i hi => State.byteAllowed_write_of_update ((State.allows_iff _ _ _ _).1 h i hi)

theorem State.MayWrite.mono {l : Loc} {n k : Nat} (h : s.MayWrite l n) (hk : k ≤ n) : s.MayWrite l k :=
  fun i hi => h i (Nat.lt_of_lt_of_le hi hk)

/-- A state that differs from one within the permit by its storage alone. -/
theorem Within.withMem (h : Within m s t) {u : State} (hu : u = { t with mem := u.mem })
    (hwf : Memory.wf t.mem → Memory.wf u.mem) (hw : m.wf = true → ∀ k, u.mem.get k ≠ t.mem.get k → s.KeyWritable k) :
    Within m s u := by
  rw [hu]
  exact { h with
    mem := fun hs => hwf (h.mem hs)
    writable := fun hm k hk => if e : u.mem.get k = t.mem.get k then h.writable hm k (e ▸ hk) else hw hm k e }

theorem Within.setByte_of_wf (h : Within m s t) {l : Loc} {i : Nat} (hw : m.wf = true → s.byteAllowed .write l i = true)
    (v : Byte) : Within m s (t.setByte l i v) := by
  refine h.withMem (State.setByte_eq _ _ _ _) (State.setByte_wf _ _ _) fun hm k hk => ?_
  rw [State.setByte_get] at hk
  split at hk
  · exact State.keyWritable_of_byteAllowed (hw hm) ‹_›
  · exact absurd rfl hk

theorem Within.setByte (h : Within m s t) {l : Loc} {i : Nat} (hw : s.byteAllowed .write l i = true) (v : Byte) :
    Within m s (t.setByte l i v) := h.setByte_of_wf (fun _ => hw) v

/-- The rightmost byte of a field whose length an encoding can state. -/
theorem Within.setLast (h : Within m s t) {l : Loc} {n : Nat} (hw : s.MayWrite l n) (hn : m.wf = true → 0 < n) (v : Byte) :
    Within m s (t.setByte l (n - 1) v) := h.setByte_of_wf (fun hm => hw _ (Nat.sub_one_lt_of_lt (hn hm))) v

theorem Within.store (h : Within m s t) {l : Loc} {n : Nat} (hw : s.MayWrite l n) (v : Nat) : Within m s (t.store l n v) := by
  induction n generalizing v with
  | zero => exact h
  | succ n ih => exact (ih (hw.mono n.le_succ) _).setByte (hw n n.lt_succ_self) _

theorem Within.storeFree (h : Within m s t) {l : Loc} {n : Nat} (hw : s.MayWrite l n) : Within m s (t.storeFree l n) := by
  induction n with
  | zero => exact h
  | succ n ih => exact (ih (hw.mono n.le_succ)).setByte (hw n n.lt_succ_self) _

theorem Within.combine (h : Within m s t) (f : Byte → Byte → Byte) {l1 : Loc} (l2 : Loc) {n : Nat} (hw : s.MayWrite l1 n) :
    Within m s (t.combine f l1 l2 n) := by
  induction n with
  | zero => exact h
  | succ n ih => exact (ih (hw.mono n.le_succ)).setByte (hw n n.lt_succ_self) _

theorem Within.translate (h : Within m s t) {l1 l2 : Loc} {i k : Nat} (hw : s.MayWrite l1 (i + k)) {u : State}
    (hu : t.translate l1 l2 i k = .ok u) : Within m s u := by
  induction k generalizing i t with
  | zero =>
    obtain rfl := Except.ok.inj hu
    exact h
  | succ k ih =>
    rw [State.translate] at hu
    split at hu
    · exact ih (h.setByte (hw i (by omega)) _) (hw.mono (by omega)) hu
    · cases hu

theorem Within.moveOffset (h : Within m s t) {l1 : Loc} (l2 : Loc) {i : Nat} (j : Nat) (c : Nibble) (hw : s.MayWrite l1 i) :
    Within m s (t.moveOffset l1 l2 i j c) := by
  induction i generalizing t j c with
  | zero => exact h
  | succ i ih =>
    cases j with
    | zero => exact ih (h.setByte (hw i i.lt_succ_self) _) _ _ (hw.mono i.le_succ)
    | succ j => exact ih (h.setByte (hw i i.lt_succ_self) _) _ _ (hw.mono i.le_succ)

theorem Within.pack (h : Within m s t) {l1 : Loc} (l2 : Loc) {i : Nat} (j : Nat) (hw : s.MayWrite l1 i) :
    Within m s (t.pack l1 l2 i j) := by
  induction i generalizing t j with
  | zero => exact h
  | succ i ih => exact ih (h.setByte (hw i i.lt_succ_self) _) _ (hw.mono i.le_succ)

theorem Within.unpack (h : Within m s t) {l1 : Loc} (l2 : Loc) {i : Nat} (j : Nat) (d : Option Nibble) (hw : s.MayWrite l1 i) :
    Within m s (t.unpack l1 l2 i j d) := by
  induction i generalizing t j d with
  | zero => simpa only [State.unpack] using h
  | succ i ih =>
    match j, d with
    | _, some d => exact ih (h.setByte (hw i i.lt_succ_self) _) _ _ (hw.mono i.le_succ)
    | 0, none => exact ih (h.setByte (hw i i.lt_succ_self) _) _ _ (hw.mono i.le_succ)
    | j + 1, none => exact ih (h.setByte (hw i i.lt_succ_self) _) _ _ (hw.mono i.le_succ)

theorem Within.moveLong (h : Within m s t) (l1 l2 : Loc) (n2 : Nat) (pad : Byte) (i k : Nat) :
    Within m s (t.moveLong l1 l2 n2 pad i k).1 := by
  induction k generalizing t i with
  | zero => exact h
  | succ k ih =>
    rw [State.moveLong]
    split
    · rename_i hok
      rw [Bool.and_eq_true] at hok
      exact ih (h.setByte ((h.byteAllowed _ _ _).symm.trans hok.2) _) _
    · exact h

end Updates

/-! ## Results -/

section Results

variable {m : Permit} {s t : State}

theorem Keeps.next (h : Within m s t) : Keeps m s (.next t) := by
  intro u hu
  obtain rfl := Host.Outcome.next.inj hu
  exact h

theorem Keeps.refused (r : Refusal) : Keeps m s (.refused r) := by
  intro t ht
  cases ht

theorem Keeps.interrupt (h : Within m s t) (k : Interruption) : Keeps m s (t.interrupt k) := by
  intro u hu
  obtain rfl | rfl | rfl := State.interrupt_cases hu
  · exact h.withStatus _
  · exact h.withStatus _
  · exact (h.setGr _ _).withStatus _

theorem Keeps.finish (h : Within m s t) (n : Nat) : Keeps m s (t.finish n) := Keeps.next (h.advance n)

theorem Keeps.complete (h : Within m s t) (n : Nat) (k : Option Interruption) : Keeps m s (t.complete n k) := by
  cases k with
  | none => exact Keeps.finish h n
  | some k => exact Keeps.interrupt (h.advance n) k

theorem Keeps.require {c : Bool} {r : Result} (k : Interruption) (hr : c = true → Keeps m s r) : Keeps m s (s.require c k r) := by
  cases c with
  | false => exact Keeps.interrupt .refl k
  | true => exact hr rfl

theorem Keeps.withOperand {α : Type} {x : Except Interruption α} {f : α → Result} (hf : ∀ a, x = .ok a → Keeps m s (f a)) :
    Keeps m s (s.withOperand x f) := by
  cases x with
  | error k => exact Keeps.interrupt .refl k
  | ok a => exact hf a rfl

theorem Keeps.ite {c : Prop} [Decidable c] {r r' : Result} (hr : Keeps m s r) (hr' : Keeps m s r') :
    Keeps m s (if c then r else r') := by
  split
  · exact hr
  · exact hr'

/-! ## Shared operations -/

theorem Keeps.ccResult (c : BitVec 2) (n : Nat) : Keeps m s (s.ccResult c n) := .finish (.setCc .refl _) n

theorem Keeps.grResult (r : Reg) (v : Word) (n : Nat) : Keeps m s (s.grResult r v n) := .finish (.setGr .refl _ _) n

theorem Keeps.grCcResult (r : Reg) (v : Word) (c : BitVec 2) (n : Nat) : Keeps m s (s.grCcResult r v c n) :=
  .finish (.setCc (.setGr .refl _ _) _) n

theorem Keeps.fixedResult (r : Reg) (v : Int) (n : Nat) : Keeps m s (s.fixedResult r v n) :=
  .complete (.setCc (.setGr .refl _ _) _) n _

theorem Keeps.logicResult (r : Reg) (v : Word) (n : Nat) : Keeps m s (s.logicResult r v n) := .grCcResult r v _ n

theorem Keeps.product (r : Reg) (y : Word) (n : Nat) : Keeps m s (s.product r y n) := .finish (.setPair .refl _ _) n

theorem Keeps.quotient (r : Reg) (y : Word) (n : Nat) : Keeps m s (s.quotient r y n) :=
  .require _ fun _ => .finish (.setGr (.setGr .refl _ _) _ _) n

theorem Keeps.branchIf (h : Within m s t) (c : Bool) (a : Word) (n : Nat) : Keeps m s (t.branchIf c a n) :=
  .ite (.next (h.branch a)) (.finish h n)

theorem Keeps.branchSetMode (h : Within m s t) (hm : m.amode = true) (r : Reg) (a : Word) (n : Nat) :
    Keeps m s (t.branchSetMode r a n) :=
  .ite (.finish h n) (.next { h with
    amode := fun hn => absurd hm (by simp [hn])
    pc := fun _ => trunc_trunc _ _ })

theorem Keeps.requireBoth {k : Access} {l1 l2 : Loc} {n1 n2 : Nat} {r : Result} (hr : s.allows k l1 n1 = true → Keeps m s r) :
    Keeps m s (s.requireBoth k l1 n1 l2 n2 r) :=
  .require _ fun h => .require _ fun _ => hr h

/-- An instruction of type SS that stores the bytes of operand 1 from left to right. -/
theorem Keeps.combine {k : Access} {f : Byte → Byte → Byte} {l1 l2 : Loc} {n len : Nat}
    (hk : s.allows k l1 n = true → s.MayWrite l1 n) :
    Keeps m s (s.requireBoth k l1 n l2 n ((s.combine f l1 l2 n).finish len)) :=
  .requireBoth fun h => .finish (.combine .refl f l2 (hk h)) _

theorem Keeps.combineResult (f : Byte → Byte → Byte) (l1 l2 : Loc) (n : Nat) : Keeps m s (s.combineResult f l1 l2 n) :=
  .requireBoth fun h => .finish (.setCc (.combine .refl f l2 (State.mayWrite_of_allows_update h)) _) _

theorem Keeps.mvclResult {x : State × Nat} (h : Within m s x.1) (r1 r2 : Reg) : Keeps m s (s.mvclResult r1 r2 x) :=
  .ite (.finish (.setCc (h.longProgress _ _ _ _ _) _) _) (.interrupt (h.longProgress _ _ _ _ _) _)

theorem Keeps.clclResult (r1 r2 : Reg) (x : Nat × Except Interruption (BitVec 2)) : Keeps m s (s.clclResult r1 r2 x) := by
  have h : Within m s (s.longProgress s r1 r2 (min x.1 (s.longLength r1)) (min x.1 (s.longLength r2))) :=
    .longProgress .refl _ _ _ _ _
  unfold State.clclResult
  split
  · exact .finish (h.setCc _) _
  · exact .interrupt h _

theorem Keeps.decimals {k : Access} {l1 l2 : Loc} {n1 n2 : Nat} {f : Nat → Nat → Result}
    (hf : s.allows k l1 n1 = true → ∀ x y, Keeps m s (f x y)) : Keeps m s (s.decimals k l1 n1 l2 n2 f) :=
  .requireBoth fun h => .require _ fun _ => .require _ fun _ => hf h _ _

theorem Keeps.decimalResult {l : Loc} {n : Nat} (hw : s.MayWrite l n) (v : Int) : Keeps m s (s.decimalResult l n v) :=
  .complete (.setCc (.store .refl hw _) _) _ _

theorem Keeps.editResult {l1 l2 : Loc} {n : Nat} {after : Bool → EditState → State → State}
    (ha : ∀ b e t, Within m s t → Within m s (after b e t)) : Keeps m s (s.editResult l1 l2 n after) :=
  .require _ fun h =>
    have hw := State.mayWrite_of_allows_update h
    .withOperand fun _ _ => .ite (.finish (ha _ _ _ (.useFree (.setCc (.storeFree .refl hw) _))) _)
      (.finish (ha _ _ _ (.setCc (.store .refl hw _) _)) _)

theorem Keeps.interlocked {l : Loc} {n : Nat} {r : Result} (hr : s.MayWrite l n → Keeps m s r) :
    Keeps m s (s.interlocked l n r) :=
  .require _ fun _ => .require _ fun h => hr (State.mayWrite_of_allows_update h)

theorem Keeps.updateByte (l : Loc) (f : Byte → Byte) : Keeps m s (s.updateByte l f) :=
  .require _ fun h => .finish (.setCc (.store .refl (State.mayWrite_of_allows_update h) _) _) _

/-- A store of one operand and what follows it. -/
theorem Keeps.write {l : Loc} {n v : Nat} {f : State → Result} (hf : ∀ t, Within m s t → Keeps m s (f t)) :
    Keeps m s (s.withOperand (s.write l n v) f) :=
  .withOperand fun t h => by
    obtain ⟨hw, rfl⟩ := State.write_next h
    exact hf _ (.store .refl (State.mayWrite_of_allows_write hw) _)

theorem Keeps.writeAligned {l : Loc} {n v : Nat} {f : State → Result} (hf : ∀ t, Within m s t → Keeps m s (f t)) :
    Keeps m s (s.withOperand (s.writeAligned l n v) f) :=
  .withOperand fun t h => by
    obtain ⟨-, hw, rfl⟩ := State.writeAligned_next h
    exact hf _ (.store .refl (State.mayWrite_of_allows_write hw) _)

theorem State.writeWords_next {l : Loc} {n v : Nat} (h : s.writeWords l n v = .ok t) :
    s.misaligned l 4 = false ∧ s.allows .write l (4 * n) = true ∧ t = s.store l (4 * n) v := by
  unfold State.writeWords at h
  split at h
  · cases h
  · rename_i hm
    exact ⟨by simpa using hm, State.write_next h⟩

theorem Keeps.writeWords {l : Loc} {n v : Nat} {f : State → Result} (hf : ∀ t, Within m s t → Keeps m s (f t)) :
    Keeps m s (s.withOperand (s.writeWords l n v) f) :=
  .withOperand fun t h => by
    obtain ⟨-, hw, rfl⟩ := State.writeWords_next h
    exact hf _ (.store .refl (State.mayWrite_of_allows_write hw) _)

/-! ### Floating point -/

theorem Keeps.shortRR {r1 r2 : Reg} {f : Word → Result} (hf : ∀ y, Keeps m s (f y)) : Keeps m s (s.shortRR r1 r2 f) :=
  .require _ fun _ => hf _

theorem Keeps.longRR {r1 r2 : Reg} {f : Dword → Result} (hf : ∀ y, Keeps m s (f y)) : Keeps m s (s.longRR r1 r2 f) :=
  .require _ fun _ => hf _

theorem Keeps.extRR {r1 r2 : Reg} {f : Qword → Result} (hf : ∀ y, Keeps m s (f y)) : Keeps m s (s.extRR r1 r2 f) :=
  .require _ fun _ => hf _

theorem Keeps.shortRX {r1 : Reg} {l : Loc} {f : Word → Result} (hf : ∀ y, Keeps m s (f y)) : Keeps m s (s.shortRX r1 l f) :=
  .require _ fun _ => .withOperand fun y _ => hf y

theorem Keeps.longRX {r1 : Reg} {l : Loc} {f : Dword → Result} (hf : ∀ y, Keeps m s (f y)) : Keeps m s (s.longRX r1 l f) :=
  .require _ fun _ => .withOperand fun y _ => hf y

/-- The end of an instruction that writes a short register. -/
theorem Keeps.setShort (hm : m.fpr = true) (r : Reg) (v : Word) (n : Nat) (k : Option Interruption) :
    Keeps m s ((s.setShort r v).complete n k) := .complete (.setShort .refl hm r v) n k

theorem Keeps.setFpr (hm : m.fpr = true) (r : Reg) (v : Dword) (n : Nat) (k : Option Interruption) :
    Keeps m s ((s.setFpr r v).complete n k) := .complete (.setFpr .refl hm r v) n k

theorem Keeps.setExt (hm : m.fpr = true) (r : Reg) (v : Qword) (n : Nat) (k : Option Interruption) :
    Keeps m s ((s.setExt r v).complete n k) := .complete (.setExt .refl hm r v) n k

theorem Keeps.addShort (hm : m.fpr = true) (r : Reg) (y : Word) (sub norm : Bool) (n : Nat) :
    Keeps m s (s.addShort r y sub norm n) := .complete (.setCc (.setShort .refl hm _ _) _) _ _

theorem Keeps.addLong (hm : m.fpr = true) (r : Reg) (y : Dword) (sub norm : Bool) (n : Nat) :
    Keeps m s (s.addLong r y sub norm n) := .complete (.setCc (.setFpr .refl hm _ _) _) _ _

theorem Keeps.addExt (hm : m.fpr = true) (r : Reg) (y : Qword) (sub : Bool) : Keeps m s (s.addExt r y sub) :=
  .complete (.setCc (.setExt .refl hm _ _) _) _ _

theorem Keeps.divShort (hm : m.fpr = true) (r : Reg) (y : Word) (n : Nat) : Keeps m s (s.divShort r y n) :=
  .require _ fun _ => .setShort hm _ _ _ _

theorem Keeps.divLong (hm : m.fpr = true) (r : Reg) (y : Dword) (n : Nat) : Keeps m s (s.divLong r y n) :=
  .require _ fun _ => .setFpr hm _ _ _ _

theorem Keeps.loadShortCc (hm : m.fpr = true) (r : Reg) (y : Word) : Keeps m s (s.loadShortCc r y) :=
  .finish (.setCc (.setShort .refl hm _ _) _) _

theorem Keeps.loadLongCc (hm : m.fpr = true) (r : Reg) (y : Dword) : Keeps m s (s.loadLongCc r y) :=
  .finish (.setCc (.setFpr .refl hm _ _) _) _

end Results

/-! ## Every instruction -/

theorem Instr.pos_of_lenOk4_and {l : Nat} {b : Bool} (h : (lenOk4 l && b) = true) : 0 < l := by
  simp only [lenOk4, Bool.and_eq_true, decide_eq_true_iff] at h
  omega

theorem State.tod_le_clockNow (s : State) : s.tod.toNat ≤ s.clockNow.toNat := by
  unfold State.clockNow
  split
  · assumption
  · exact le_rfl

/-- Every instruction that EX can execute keeps to its permit. -/
theorem execTarget_keeps (i : Instr) (s : State) : Keeps (s.permit i) s (execTarget i s) := by
  unfold execTarget
  cases i with
  | spm r1 => exact .finish (.withMask .refl rfl _ _) _
  | svc i => exact .finish (.withService .refl _ _) _
  | mc b1 d1 i2 => exact .require _ fun _ => .finish .refl _
  | ex r1 x2 b2 d2 => exact .interrupt .refl _
  -- branches
  | balr r1 r2 | bctr r1 r2 | bal r1 x2 b2 d2 | bct r1 x2 b2 d2 | bxh r1 r3 b2 d2 | bxle r1 r3 b2 d2 =>
    exact .branchIf (.setGr .refl _ _) _ _ _
  | bcr m1 r2 | bc m1 x2 b2 d2 => exact .branchIf .refl _ _ _
  | basr r1 r2 | bas r1 x2 b2 d2 => exact .require _ fun _ => .branchIf (.setGr .refl _ _) _ _ _
  | bassm r1 r2 => exact .require _ fun h => .branchSetMode (.setGr .refl _ _) h _ _ _
  | bsm r1 r2 =>
    refine .require _ fun h => .branchSetMode ?_ h _ _ _
    split
    · exact .refl
    · exact .setGr .refl _ _
  -- fixed-point arithmetic, comparison and connectives
  | lpr r1 r2 | lnr r1 r2 | lcr r1 r2 | ar r1 r2 | sr r1 r2 => exact .fixedResult _ _ _
  | a r1 x2 b2 d2 | s r1 x2 b2 d2 | ah r1 x2 b2 d2 | sh r1 x2 b2 d2 => exact .withOperand fun _ _ => .fixedResult _ _ _
  | ltr r1 r2 | nr r1 r2 | or r1 r2 | xr r1 r2 | alr r1 r2 | slr r1 r2 | sra r1 b2 d2 => exact .grCcResult _ _ _ _
  | n r1 x2 b2 d2 | o r1 x2 b2 d2 | x r1 x2 b2 d2 | al r1 x2 b2 d2 | sl r1 x2 b2 d2 =>
    exact .withOperand fun _ _ => .grCcResult _ _ _ _
  | cr r1 r2 | clr r1 r2 => exact .ccResult _ _
  | c r1 x2 b2 d2 | cl r1 x2 b2 d2 | ch r1 x2 b2 d2 | cli b1 d1 i2 | tm b1 d1 i2 | clc l b1 d1 b2 d2 =>
    exact .withOperand fun _ _ => .ccResult _ _
  | clm r1 m3 b2 d2 => exact .ite (.withOperand fun _ _ => .ccResult _ _) (.withOperand fun _ _ => .ccResult _ _)
  | mr r1 r2 => exact .require _ fun _ => .product _ _ _
  | m r1 x2 b2 d2 => exact .require _ fun _ => .withOperand fun _ _ => .product _ _ _
  | dr r1 r2 => exact .require _ fun _ => .quotient _ _ _
  | d r1 x2 b2 d2 => exact .require _ fun _ => .withOperand fun _ _ => .quotient _ _ _
  -- loads and stores of general registers
  | lr r1 r2 | la r1 x2 b2 d2 | srl r1 b2 d2 | sll r1 b2 d2 | ipm r1 => exact .grResult _ _ _
  | l r1 x2 b2 d2 | lh r1 x2 b2 d2 | ic r1 x2 b2 d2 | mh r1 x2 b2 d2 => exact .withOperand fun _ _ => .grResult _ _ _
  | icm r1 m3 b2 d2 => exact .ite (.withOperand fun _ _ => .ccResult _ _) (.withOperand fun _ _ => .grCcResult _ _ _ _)
  | lm r1 r3 b2 d2 => exact .withOperand fun _ _ => .finish (.setGrRange .refl _ _ _) _
  | st r1 x2 b2 d2 | sth r1 x2 b2 d2 | cvd r1 x2 b2 d2 => exact .writeAligned fun _ h => .finish h _
  | stc r1 x2 b2 d2 | stcm r1 m3 b2 d2 | mvi b1 d1 i2 => exact .write fun _ h => .finish h _
  | stm r1 r3 b2 d2 => exact .writeWords fun _ h => .finish h _
  | ni b1 d1 i2 | oi b1 d1 i2 | xi b1 d1 i2 => exact .updateByte _ _
  -- shifts
  | sla r1 b2 d2 => exact .complete (.setCc (.setGr .refl _ _) _) _ _
  | slda r1 b2 d2 => exact .require _ fun _ => .complete (.setCc (.setPair .refl _ _) _) _ _
  | srda r1 b2 d2 => exact .require _ fun _ => .finish (.setCc (.setPair .refl _ _) _) _
  | sldl r1 b2 d2 | srdl r1 b2 d2 => exact .require _ fun _ => .finish (.setPair .refl _ _) _
  -- compare and swap, test and set, clock
  | cs r1 r3 b2 d2 =>
    exact .interlocked fun h => .ite (.finish (.setCc (.store .refl h _) _) _) (.grCcResult _ _ _ _)
  | cds r1 r3 b2 d2 =>
    exact .require _ fun _ => .interlocked fun h =>
      .ite (.finish (.setCc (.store .refl h _) _) _) (.finish (.setCc (.setPair .refl _ _) _) _)
  | ts b2 d2 => exact .require _ fun h => .finish (.setCc (.store .refl (State.mayWrite_of_allows_update h) _) _) _
  | stck b2 d2 =>
    exact .writeAligned fun _ h => .finish (.useFree (h.withClock s.tod_le_clockNow _)) _
  -- storage to storage
  | mvc l b1 d1 b2 d2 => exact .combine State.mayWrite_of_allows_write
  | mvn l b1 d1 b2 d2 | mvz l b1 d1 b2 d2 => exact .combine State.mayWrite_of_allows_update
  | nc l b1 d1 b2 d2 | oc l b1 d1 b2 d2 | xc l b1 d1 b2 d2 => exact .combineResult _ _ _ _
  | tr l b1 d1 b2 d2 =>
    exact .require _ fun h => .withOperand fun _ ht =>
      .finish (.translate .refl (by simpa using State.mayWrite_of_allows_update h) ht) _
  | trt l b1 d1 b2 d2 =>
    refine .withOperand fun x _ => ?_
    split
    · exact .ccResult _ _
    · exact .finish (.setCc (.setGr (.setGr .refl _ _) _ _) _) _
  | mvo l1 l2 b1 d1 b2 d2 =>
    exact .requireBoth fun h =>
      have hw := State.mayWrite_of_allows_update h
      .finish (.moveOffset (.setLast .refl hw (Instr.pos_of_lenOk4_and ·) _) _ _ _ (hw.mono (Nat.sub_le ..))) _
  | pack l1 l2 b1 d1 b2 d2 =>
    exact .requireBoth fun h =>
      have hw := State.mayWrite_of_allows_write h
      .finish (.pack (.setLast .refl hw (Instr.pos_of_lenOk4_and ·) _) _ _ (hw.mono (Nat.sub_le ..))) _
  | unpk l1 l2 b1 d1 b2 d2 =>
    exact .requireBoth fun h =>
      have hw := State.mayWrite_of_allows_write h
      .finish (.unpack (.setLast .refl hw (Instr.pos_of_lenOk4_and ·) _) _ _ _ (hw.mono (Nat.sub_le ..))) _
  | mvcl r1 r2 => exact .require _ fun _ => .ite (.ccResult _ _) (.mvclResult (.moveLong .refl _ _ _ _ _ _) _ _)
  | clcl r1 r2 => exact .require _ fun _ => .clclResult _ _ _
  -- decimal
  | ap l1 l2 b1 d1 b2 d2 | sp l1 l2 b1 d1 b2 d2 =>
    exact .decimals fun h _ _ => .decimalResult (State.mayWrite_of_allows_update h) _
  | cp l1 l2 b1 d1 b2 d2 => exact .decimals fun _ _ _ => .ccResult _ _
  | zap l1 l2 b1 d1 b2 d2 =>
    exact .requireBoth fun h => .require _ fun _ =>
      have hw := State.mayWrite_of_allows_write h
      .ite (.complete (.useFree (.setCc (.storeFree .refl hw) _)) _ _) (.decimalResult hw _)
  | mp l1 l2 b1 d1 b2 d2 | dp l1 l2 b1 d1 b2 d2 =>
    exact .require _ fun _ => .decimals fun h _ _ => .require _ fun _ =>
      .finish (.store .refl (State.mayWrite_of_allows_update h) _) _
  | srp l1 b1 d1 b2 d2 i3 =>
    exact .require _ fun h => .require _ fun _ =>
      .complete (.setCc (.store .refl (State.mayWrite_of_allows_update h) _) _) _ _
  | ed l b1 d1 b2 d2 => exact .editResult fun _ _ _ h => h
  | edmk l b1 d1 b2 d2 =>
    refine .editResult fun isOpen e t h => ?_
    split
    · exact h.setGr _ _
    · split
      · exact h
      · exact h.setGr _ _
  | cvb r1 x2 b2 d2 => exact .withOperand fun _ _ => .require _ fun _ => .complete (.setGr .refl _ _) _ _
  -- floating point
  | lpdr r1 r2 | lndr r1 r2 | ltdr r1 r2 | lcdr r1 r2 => exact .longRR fun _ => .loadLongCc rfl _ _
  | lper r1 r2 | lner r1 r2 | lter r1 r2 | lcer r1 r2 => exact .shortRR fun _ => .loadShortCc rfl _ _
  | ler r1 r2 => exact .shortRR fun _ => .setShort rfl _ _ _ none
  | le r1 x2 b2 d2 => exact .shortRX fun _ => .setShort rfl _ _ _ none
  | ldr r1 r2 => exact .longRR fun _ => .setFpr rfl _ _ _ none
  | ld r1 x2 b2 d2 => exact .longRX fun _ => .setFpr rfl _ _ _ none
  | her r1 r2 => exact .shortRR fun _ => .setShort rfl _ _ _ _
  | hdr r1 r2 => exact .longRR fun _ => .setFpr rfl _ _ _ _
  | lrer r1 r2 => exact .longRR fun _ => .setShort rfl _ _ _ _
  | lrdr r1 r2 => exact .require _ fun _ => .setFpr rfl _ _ _ _
  | aer r1 r2 | aur r1 r2 | ser r1 r2 | sur r1 r2 => exact .shortRR fun _ => .addShort rfl _ _ _ _ _
  | ae r1 x2 b2 d2 | au r1 x2 b2 d2 | se r1 x2 b2 d2 | su r1 x2 b2 d2 => exact .shortRX fun _ => .addShort rfl _ _ _ _ _
  | adr r1 r2 | awr r1 r2 | sdr r1 r2 | swr r1 r2 => exact .longRR fun _ => .addLong rfl _ _ _ _ _
  | ad r1 x2 b2 d2 | aw r1 x2 b2 d2 | sd r1 x2 b2 d2 | sw r1 x2 b2 d2 => exact .longRX fun _ => .addLong rfl _ _ _ _ _
  | axr r1 r2 | sxr r1 r2 => exact .extRR fun _ => .addExt rfl _ _ _
  | cer r1 r2 => exact .shortRR fun _ => .ccResult _ _
  | ce r1 x2 b2 d2 => exact .shortRX fun _ => .ccResult _ _
  | cdr r1 r2 => exact .longRR fun _ => .ccResult _ _
  | cd r1 x2 b2 d2 => exact .longRX fun _ => .ccResult _ _
  | der r1 r2 => exact .shortRR fun _ => .divShort rfl _ _ _
  | de r1 x2 b2 d2 => exact .shortRX fun _ => .divShort rfl _ _ _
  | ddr r1 r2 => exact .longRR fun _ => .divLong rfl _ _ _
  | dd r1 x2 b2 d2 => exact .longRX fun _ => .divLong rfl _ _ _
  | dxr r1 r2 => exact .require _ fun _ => .extRR fun _ => .require _ fun _ => .setExt rfl _ _ _ _
  | mer r1 r2 => exact .shortRR fun _ => .setFpr rfl _ _ _ _
  | me r1 x2 b2 d2 => exact .shortRX fun _ => .setFpr rfl _ _ _ _
  | mdr r1 r2 => exact .longRR fun _ => .setFpr rfl _ _ _ _
  | md r1 x2 b2 d2 => exact .longRX fun _ => .setFpr rfl _ _ _ _
  | mxdr r1 r2 => exact .require _ fun _ => .setExt rfl _ _ _ _
  | mxd r1 x2 b2 d2 => exact .require _ fun _ => .withOperand fun _ _ => .setExt rfl _ _ _ _
  | mxr r1 r2 => exact .extRR fun _ => .setExt rfl _ _ _ _
  | ste r1 x2 b2 d2 | std r1 x2 b2 d2 => exact .require _ fun _ => .writeAligned fun _ h => .finish h _
  -- ESA
  | cpya r1 r2 | sar r1 r2 => exact .require _ fun h => .finish (.setAr .refl h _ _) _
  | ear r1 r2 => exact .require _ fun _ => .grResult _ _ _
  | iac r1 => exact .require _ fun _ => .grCcResult _ _ _ _
  | tar r1 r2 => exact .require _ fun _ => .ccResult _ _
  | lae r1 x2 b2 d2 =>
    exact .require _ fun h => .ite (.finish (.useFree (.setAr (.setGr .refl _ _) h _ _)) _)
      (.finish (.setAr (.setGr .refl _ _) h _ _) _)
  | lam r1 r3 b2 d2 => exact .require _ fun h => .withOperand fun _ _ => .finish (.setArRange .refl h _ _ _) _
  | stam r1 r3 b2 d2 => exact .require _ fun _ => .writeWords fun _ h => .finish h _
  | sac b2 d2 =>
    exact .require _ fun h =>
      .ite (.finish (.withAsc .refl h _) _) (.ite (.finish (.withAsc .refl h _) _) (.refused _))

end Sys2Proof.Machine
end

section
/-! Proofs about the whole machine: what every step keeps (spec/10_state.md sections 3 to 9, spec/20_memory.md sections 1 and 4). -/

namespace Sys2Proof.Machine

/-! ## The decoder answers well-formed instructions only -/

theorem lenOk_succ (b : Byte) : lenOk (b.toNat + 1) = true := by
  have := b.isLt
  simp only [lenOk, Bool.and_eq_true, decide_eq_true_iff]
  omega

theorem lenOk4_succ (d : Nibble) : lenOk4 (d.toNat + 1) = true := by
  have := d.isLt
  simp only [lenOk4, Bool.and_eq_true, decide_eq_true_iff]
  omega

theorem decodeRR_wf {b0 b1 : Byte} {i : Instr} (h : decodeRR b0 b1 = some i) : i.wf = true := by
  unfold decodeRR at h
  split at h <;> cases h <;> rfl

theorem decodeRX_wf {b0 b1 b2 b3 : Byte} {i : Instr} (h : decodeRX b0 b1 b2 b3 = some i) : i.wf = true := by
  unfold decodeRX at h
  split at h <;> cases h <;> rfl

theorem decodeB2_wf {b1 b2 b3 : Byte} {i : Instr} (h : decodeB2 b1 b2 b3 = some i) : i.wf = true := by
  unfold decodeB2 at h
  split at h <;> cases h <;> rfl

theorem decodeRS_wf {b0 b1 b2 b3 : Byte} {i : Instr} (h : decodeRS b0 b1 b2 b3 = some i) : i.wf = true := by
  by_cases hb : b0.toNat = 0xB2
  · exact decodeB2_wf (by simpa [decodeRS, hb] using h)
  · unfold decodeRS at h
    split at h
    case _ => cases h; rfl
    all_goals first | contradiction | (cases h; rfl)

theorem decodeSS_wf {b0 b1 b2 b3 b4 b5 : Byte} {i : Instr} (h : decodeSS b0 b1 b2 b3 b4 b5 = some i) : i.wf = true := by
  unfold decodeSS at h
  split at h <;> cases h <;> simp only [Instr.wf, lenOk_succ, lenOk4_succ, Bool.and_self]

theorem of_decoded_ok {op : BitVec 16} {x : Option Instr} {i : Instr} {rest tail : List Byte}
    (h : decoded op x rest = .ok (i, tail)) : x = some i ∧ rest = tail := by
  cases x with
  | none => cases h
  | some j =>
    cases h
    exact ⟨rfl, rfl⟩

theorem decode_wf {bs : List Byte} {i : Instr} {rest : List Byte} (h : decode bs = .ok (i, rest)) : i.wf = true := by
  unfold decode at h
  split at h
  · split at h
    · exact decodeRR_wf (of_decoded_ok h).1
    · split at h
      · split at h
        · exact decodeRX_wf (of_decoded_ok h).1
        · split at h
          · exact decodeRS_wf (of_decoded_ok h).1
          · split at h
            · exact decodeSS_wf (of_decoded_ok h).1
            · cases h
      · cases h
  · cases h

/-! ## The instruction that is executed -/

/-- An instruction means the same directly and under EX, but for EX itself. -/
theorem exec_eq_execTarget {i : Instr} (h : ∀ r1 x2 b2 d2, i ≠ .ex r1 x2 b2 d2) (s : State) : exec i s = execTarget i s := by
  cases i with
  | ex r1 x2 b2 d2 => exact absurd rfl (h r1 x2 b2 d2)
  | _ => rfl

theorem exec_ex (r1 x2 b2 : Reg) (d2 : Disp) (s : State) :
    exec (.ex r1 x2 b2 d2) s = s.withOperand (s.fetchAt (s.addrx x2 b2 d2)) fun bs => s.executeTarget r1 bs := rfl

theorem State.executed_of_ne_ex {i : Instr} (h : ∀ r1 x2 b2 d2, i ≠ .ex r1 x2 b2 d2) (s : State) : s.executed i = i := by
  cases i with
  | ex r1 x2 b2 d2 => exact absurd rfl (h r1 x2 b2 d2)
  | _ => rfl

theorem Instr.ex_or_ne (i : Instr) : (∃ r1 x2 b2 d2, i = .ex r1 x2 b2 d2) ∨ ∀ r1 x2 b2 d2, i ≠ .ex r1 x2 b2 d2 := by
  by_cases h : ∃ r1 x2 b2 d2, i = .ex r1 x2 b2 d2
  · exact .inl h
  · exact .inr fun r1 x2 b2 d2 e => h ⟨r1, x2, b2, d2, e⟩

/-- The instruction that EX executes is well-formed, for it is decoded. -/
theorem State.executed_wf (s : State) {i : Instr} (hi : i.wf = true) : (s.executed i).wf = true := by
  obtain ⟨r1, x2, b2, d2, rfl⟩ | hne := Instr.ex_or_ne i
  · simp only [State.executed]
    split
    · split
      · exact decode_wf ‹_›
      · exact hi
    · exact hi
  · rwa [State.executed_of_ne_ex hne]

/-- What keeps to a permit under the marker of EX keeps to it when the marker is taken away. -/
theorem Keeps.afterEx {m : Permit} {s : State} {r : Result} (h : Keeps m { s with viaEx := true } r) : Keeps m s (afterEx r) := by
  intro t ht
  cases r with
  | next u =>
    obtain rfl := Host.Outcome.next.inj ht
    exact { h u rfl with viaEx := .inr rfl }
  | fault f => cases ht
  | refused f => cases ht

/-- Every instruction keeps to the permit of the one that is executed, itself or the target of EX. -/
theorem exec_keeps (i : Instr) (s : State) : Keeps (s.permit (s.executed i)) s (exec i s) := by
  obtain ⟨r1, x2, b2, d2, rfl⟩ | hne := Instr.ex_or_ne i
  · rw [exec_ex]
    refine .withOperand fun bs hbs => ?_
    simp only [State.executeTarget, State.executed, hbs]
    cases hd : decode (s.modifyTarget r1 bs) with
    | error e => exact .interrupt .refl _
    | ok x => exact .afterEx (execTarget_keeps x.1 _)
  · rw [exec_eq_execTarget hne, State.executed_of_ne_ex hne]
    exact execTarget_keeps i s

/-- Settles O9: the five clauses are the five parts of the permit. -/
theorem whoChangesWhat : Obligations.WhoChangesWhat := by
  intro i s t h
  have hw := exec_keeps i s t h
  have off {a b : Bool} (hab : a = false ∨ b = false) : (a && b) = false := by
    obtain rfl | rfl := hab
    · rfl
    · exact Bool.and_false a
  exact ⟨fun hoff => hw.ar (off hoff), fun hoff => hw.asc (off hoff), fun hoff => hw.amode (off hoff), hw.pm, hw.fpr⟩

/-! ## Steps -/

/-- A step of a running program ends in an interruption of the state as it is, or in the meaning of a decoded instruction. -/
theorem step_running_cases {s : State} (hs : s.status = .running) :
    (∃ k, step s = s.interrupt k) ∨ ∃ i, i.wf = true ∧ step s = exec i s := by
  unfold step
  simp only [hs]
  cases s.fetchAt s.pc with
  | error k => exact .inl ⟨k, rfl⟩
  | ok bs =>
    cases hd : decode bs with
    | error e => exact .inl ⟨decodeInterruption e, by simp only [hd]⟩
    | ok x => exact .inr ⟨x.1, decode_wf hd, by simp only [hd]⟩

/-- Every step of a running program keeps to the permit of a well-formed instruction. -/
theorem step_within {s t : State} (hs : s.status = .running) (h : step s = .next t) :
    ∃ i, i.wf = true ∧ Within (s.permit i) s t := by
  obtain ⟨k, hk⟩ | ⟨i, hi, he⟩ := step_running_cases hs
  · exact ⟨.mc 0 0 0, rfl, Keeps.interrupt .refl k t (hk.symm.trans h)⟩
  · exact ⟨s.executed i, s.executed_wf hi, exec_keeps i s t (he.symm.trans h)⟩

/-- A step of BS2000 answers the state of its host: with another GR3 after an interruption, and perhaps ended after an SVC. -/
theorem step_host_cases {s t : State} (hs : s.status ≠ .running) (h : step s = .next t) :
    ∃ r : HostReturn, t = s.resume r ∨ t = { s.resume r with status := .ended } ∨ ∃ v, t = (s.resume r).setGr 3 v := by
  unfold step at h
  cases hst : s.status with
  | running => exact absurd hst hs
  | terminated k => simp only [hst] at h; cases h
  | ended => simp only [hst] at h; cases h
  | service =>
    simp only [hst] at h
    obtain e | e := State.serve_cases h
    · exact ⟨_, .inl e⟩
    · exact ⟨_, .inr (.inl e)⟩
  | stxit k =>
    simp only [hst] at h
    exact ⟨_, .inr (.inr ⟨_, (State.activateStxit_next h).2⟩)⟩

/-- Settles O10: by the permit, a step writes only bytes that it has checked. -/
theorem storageChangesOnlyWhereWritable : Obligations.StorageChangesOnlyWhereWritable := by
  intro s t hs h
  obtain ⟨i, hi, hw⟩ := step_within hs h
  exact hw.writable hi

theorem Within.sameSystem {m : Permit} {s t : State} (h : Within m s t) : s.SameSystem t :=
  ⟨h.cfg, h.pages, h.accessList, h.stxit⟩

/-- Settles O11: by the permit for a running program; BS2000 keeps the parameters and the clock. -/
theorem systemPartsStayAndTheClockNeverFalls : Obligations.SystemPartsStayAndTheClockNeverFalls := by
  intro s t h
  by_cases hs : s.status = .running
  · obtain ⟨i, -, hw⟩ := step_within hs h
    exact ⟨fun _ => hw.sameSystem, hw.cfg, hw.tod⟩
  · refine ⟨fun hrun => absurd hrun hs, ?_⟩
    obtain ⟨r, rfl | rfl | ⟨v, rfl⟩⟩ := step_host_cases hs h <;> exact ⟨rfl, le_rfl⟩

/-! ## The invariant -/

/-- A step within the permit of an instruction keeps the invariant: a mode that the CPU lacks is not in the permit. -/
theorem Within.inv {s t : State} {i : Instr} (h : Within (s.permit i) s t) (hs : s.Inv) : t.Inv where
  mem := h.mem hs.mem
  pc := h.pc hs.pc
  amode ht := by
    rw [h.cfg]
    by_contra hno
    rw [h.amode (by simp [State.permit, hno])] at ht
    exact hno (hs.amode ht)
  asc ht := by
    rw [h.cfg]
    by_contra hno
    rw [h.asc (by simp [State.permit, hno])] at ht
    exact hno (hs.asc ht)
  viaEx := h.viaEx.elim (·.trans hs.viaEx) id

/-- BS2000 lets the program go on in a state that meets the invariant. -/
theorem State.resume_inv {s : State} (r : HostReturn) (hs : s.Inv) : (s.resume r).Inv where
  mem := State.resume_wf r hs.mem
  pc := trunc_trunc _ _
  amode h := (Bool.and_eq_true _ _ ▸ h).2
  asc h := (Bool.and_eq_true _ _ ▸ h).2
  viaEx := hs.viaEx

theorem State.Inv.withStatus {s : State} (h : s.Inv) (k : RunStatus) : ({ s with status := k } : State).Inv := { h with }

theorem State.Inv.setGr {s : State} (h : s.Inv) (r : Reg) (v : Word) : (s.setGr r v).Inv := { h with }

/-- Settles O3: a step of the program by its permit, a step of BS2000 by the state it resumes in. -/
theorem everyStepKeepsTheInvariant : Obligations.EveryStepKeepsTheInvariant := by
  intro s t hs h
  by_cases hrun : s.status = .running
  · obtain ⟨i, -, hw⟩ := step_within hrun h
    exact hw.inv hs
  · obtain ⟨r, rfl | rfl | ⟨v, rfl⟩⟩ := step_host_cases hrun h
    · exact State.resume_inv r hs
    · exact (State.resume_inv r hs).withStatus _
    · exact (State.resume_inv r hs).setGr _ _

/-- Settles O2: storage is empty and every mode off at reset. -/
theorem resetMeetsTheInvariant : Obligations.ResetMeetsTheInvariant where
  mem := Memory.reset_wf
  pc := by decide
  amode h := by cases h
  asc h := by cases h
  viaEx := rfl

/-- Settles O1: the table of R480 is the definition of the start state. -/
theorem startStateOfAProgram : Obligations.StartStateOfAProgram := by
  intro p
  have har : ∀ r, (State.start p).getAr r = 0 := fun r => Vector.getElem_replicate _
  exact ⟨rfl, har, rfl, rfl, rfl, rfl, rfl, fun _ => rfl, fun _ => rfl, rfl, rfl, rfl⟩

end Sys2Proof.Machine
end

section
/-! Proofs about spec/30_encoding.md: the words of every format decode to the instructions that they encode. -/

namespace Sys2Proof.Machine

/-! ## Fields -/

/-- A B and D halfword gives its displacement back, R96. -/
@[simp] theorem dispOf_nibbles (b : Reg) (d : Disp) : dispOf (nibbles b (d.extractLsb' 8 4)) (d.extractLsb' 0 8) = d := by
  rw [dispOf, loNibble_nibbles]
  exact BitVec.extractLsb'_append_extractLsb'_eq_extractLsb' rfl |>.trans BitVec.extractLsb'_eq_self

theorem lenField_toNat {l : Nat} (h : lenOk l = true) : (lenField l).toNat + 1 = l := by
  simp only [lenOk, Bool.and_eq_true, decide_eq_true_iff] at h
  rw [lenField, BitVec.toNat_ofNat]
  omega

theorem lenField4_toNat {l : Nat} (h : lenOk4 l = true) : (lenField4 l).toNat + 1 = l := by
  simp only [lenOk4, Bool.and_eq_true, decide_eq_true_iff] at h
  rw [lenField4, BitVec.toNat_ofNat]
  omega

/-! ## Formats -/

/-- R92 and R115: a first byte from X'40' to X'7F' takes four bytes, which type RX decodes. -/
theorem decode_of_decodeRX {b0 b1 b2 b3 : Byte} {i : Instr} (hlo : 64 ≤ b0.toNat) (hhi : b0.toNat < 128)
    (hi : decodeRX b0 b1 b2 b3 = some i) (rest : List Byte) : decode (b0 :: b1 :: b2 :: b3 :: rest) = .ok (i, rest) := by
  have hnotRR : ¬ b0.toNat < 64 := by omega
  simp only [decode, if_neg hnotRR, if_pos hhi, hi, decoded]

/-- R92 and R115: a first byte from X'C0' on takes six bytes, which type SS decodes. -/
theorem decode_of_decodeSS {b0 b1 b2 b3 b4 b5 : Byte} {i : Instr} (hlo : 192 ≤ b0.toNat)
    (hi : decodeSS b0 b1 b2 b3 b4 b5 = some i) (rest : List Byte) :
    decode (b0 :: b1 :: b2 :: b3 :: b4 :: b5 :: rest) = .ok (i, rest) := by
  have hnotRR : ¬ b0.toNat < 64 := by omega
  have hnotRX : ¬ b0.toNat < 128 := by omega
  have hnotRS : ¬ b0.toNat < 192 := by omega
  simp only [decode, if_neg hnotRR, if_neg hnotRX, if_neg hnotRS, hi, decoded]

/-! ### The fields as they were put together -/

theorem decode_append_RR {b0 b1 : Byte} {i j : Instr} (rest : List Byte) (hb : b0.toNat < 64) (hj : decodeRR b0 b1 = some j)
    (he : j = i) : decode ([b0, b1] ++ rest) = .ok (i, rest) := decode_of_decodeRR hb (he ▸ hj) rest

theorem decode_append_RX {b0 b1 : Byte} {b : Reg} {d : Disp} {i j : Instr} (rest : List Byte) (hlo : 64 ≤ b0.toNat)
    (hhi : b0.toNat < 128) (hj : decodeRX b0 b1 (nibbles b (d.extractLsb' 8 4)) (d.extractLsb' 0 8) = some j) (he : j = i) :
    decode ([b0, b1] ++ baseDisp b d ++ rest) = .ok (i, rest) := decode_of_decodeRX hlo hhi (he ▸ hj) rest

theorem decode_append_RS {b0 b1 : Byte} {b : Reg} {d : Disp} {i j : Instr} (rest : List Byte) (hlo : 128 ≤ b0.toNat)
    (hhi : b0.toNat < 192) (hj : decodeRS b0 b1 (nibbles b (d.extractLsb' 8 4)) (d.extractLsb' 0 8) = some j) (he : j = i) :
    decode ([b0, b1] ++ baseDisp b d ++ rest) = .ok (i, rest) := decode_of_decodeRS hlo hhi (he ▸ hj) rest

theorem decode_append_RRE {b1 b3 : Byte} {i j : Instr} (rest : List Byte) (hj : decodeB2 b1 0 b3 = some j) (he : j = i) :
    decode ([0xB2, b1, 0, b3] ++ rest) = .ok (i, rest) := decode_of_decodeRS (by decide) (by decide) (he ▸ hj) rest

theorem decode_append_SS {b0 b1 : Byte} {b b' : Reg} {d d' : Disp} {i j : Instr} (rest : List Byte) (hlo : 192 ≤ b0.toNat)
    (hj : decodeSS b0 b1 (nibbles b (d.extractLsb' 8 4)) (d.extractLsb' 0 8) (nibbles b' (d'.extractLsb' 8 4))
      (d'.extractLsb' 0 8) = some j) (he : j = i) :
    decode ([b0, b1] ++ baseDisp b d ++ baseDisp b' d' ++ rest) = .ok (i, rest) := decode_of_decodeSS hlo (he ▸ hj) rest

/-- Settles O4: each instruction by the table of its format, its fields as they were put together. -/
theorem decodeOfEncodeGivesTheInstruction : Obligations.DecodeOfEncodeGivesTheInstruction := by
  intro i rest h
  cases i with
  | spm r1 => exact decode_append_RR rest (by decide) rfl (by simp only [hiNibble_nibbles])
  | svc i => exact decode_append_RR rest (by decide) rfl rfl
  | balr r1 r2 | bctr r1 r2 | bcr m1 r2 | bsm r1 r2 | bassm r1 r2 | basr r1 r2 | mvcl r1 r2 | clcl r1 r2 | lpr r1 r2 | lnr r1 r2
  | ltr r1 r2 | lcr r1 r2 | nr r1 r2 | clr r1 r2 | or r1 r2 | xr r1 r2 | lr r1 r2 | cr r1 r2 | ar r1 r2 | sr r1 r2 | mr r1 r2
  | dr r1 r2 | alr r1 r2 | slr r1 r2 | lpdr r1 r2 | lndr r1 r2 | ltdr r1 r2 | lcdr r1 r2 | hdr r1 r2 | lrdr r1 r2 | mxr r1 r2
  | mxdr r1 r2 | ldr r1 r2 | cdr r1 r2 | adr r1 r2 | sdr r1 r2 | mdr r1 r2 | ddr r1 r2 | awr r1 r2 | swr r1 r2 | lper r1 r2
  | lner r1 r2 | lter r1 r2 | lcer r1 r2 | her r1 r2 | lrer r1 r2 | axr r1 r2 | sxr r1 r2 | ler r1 r2 | cer r1 r2 | aer r1 r2
  | ser r1 r2 | mer r1 r2 | der r1 r2 | aur r1 r2 | sur r1 r2 =>
    exact decode_append_RR rest (by decide) rfl (by simp only [hiNibble_nibbles, loNibble_nibbles])
  | sth r1 x2 b2 d2 | la r1 x2 b2 d2 | stc r1 x2 b2 d2 | ic r1 x2 b2 d2 | ex r1 x2 b2 d2 | bal r1 x2 b2 d2 | bct r1 x2 b2 d2
  | bc m1 x2 b2 d2 | lh r1 x2 b2 d2 | ch r1 x2 b2 d2 | ah r1 x2 b2 d2 | sh r1 x2 b2 d2 | mh r1 x2 b2 d2 | bas r1 x2 b2 d2
  | cvd r1 x2 b2 d2 | cvb r1 x2 b2 d2 | st r1 x2 b2 d2 | lae r1 x2 b2 d2 | n r1 x2 b2 d2 | cl r1 x2 b2 d2 | o r1 x2 b2 d2
  | x r1 x2 b2 d2 | l r1 x2 b2 d2 | c r1 x2 b2 d2 | a r1 x2 b2 d2 | s r1 x2 b2 d2 | m r1 x2 b2 d2 | d r1 x2 b2 d2
  | al r1 x2 b2 d2 | sl r1 x2 b2 d2 | std r1 x2 b2 d2 | mxd r1 x2 b2 d2 | ld r1 x2 b2 d2 | cd r1 x2 b2 d2 | ad r1 x2 b2 d2
  | sd r1 x2 b2 d2 | md r1 x2 b2 d2 | dd r1 x2 b2 d2 | aw r1 x2 b2 d2 | sw r1 x2 b2 d2 | ste r1 x2 b2 d2 | le r1 x2 b2 d2
  | ce r1 x2 b2 d2 | ae r1 x2 b2 d2 | se r1 x2 b2 d2 | me r1 x2 b2 d2 | de r1 x2 b2 d2 | au r1 x2 b2 d2 | su r1 x2 b2 d2 =>
    exact decode_append_RX rest (by decide) (by decide) rfl (by simp only [hiNibble_nibbles, loNibble_nibbles, dispOf_nibbles])
  | bxh r1 r3 b2 d2 | bxle r1 r3 b2 d2 | srl r1 b2 d2 | sll r1 b2 d2 | sra r1 b2 d2 | sla r1 b2 d2 | srdl r1 b2 d2 | sldl r1 b2 d2
  | srda r1 b2 d2 | slda r1 b2 d2 | stm r1 r3 b2 d2 | tm b1 d1 i2 | mvi b1 d1 i2 | ts b2 d2 | ni b1 d1 i2 | cli b1 d1 i2
  | oi b1 d1 i2 | xi b1 d1 i2 | lm r1 r3 b2 d2 | lam r1 r3 b2 d2 | stam r1 r3 b2 d2 | mc b1 d1 i2 | cs r1 r3 b2 d2
  | cds r1 r3 b2 d2 | clm r1 m3 b2 d2 | stcm r1 m3 b2 d2 | icm r1 m3 b2 d2
  | stck b2 d2 | sac b2 d2 =>
    exact decode_append_RS rest (by decide) (by decide) rfl (by simp only [hiNibble_nibbles, loNibble_nibbles, dispOf_nibbles])
  | ipm r1 | iac r1 | dxr r1 r2 | tar r1 r2 | cpya r1 r2 | sar r1 r2 | ear r1 r2 =>
    exact decode_append_RRE rest rfl (by simp only [hiNibble_nibbles, loNibble_nibbles])
  | mvn l b1 d1 b2 d2 | mvc l b1 d1 b2 d2 | mvz l b1 d1 b2 d2 | nc l b1 d1 b2 d2 | clc l b1 d1 b2 d2 | oc l b1 d1 b2 d2
  | xc l b1 d1 b2 d2 | tr l b1 d1 b2 d2 | trt l b1 d1 b2 d2 | ed l b1 d1 b2 d2 | edmk l b1 d1 b2 d2 =>
    have hl := lenField_toNat h
    exact decode_append_SS rest (by decide) rfl (by simp only [hiNibble_nibbles, dispOf_nibbles, hl])
  | srp l1 b1 d1 b2 d2 i3 =>
    have hl := lenField4_toNat h
    exact decode_append_SS rest (by decide) rfl (by simp only [hiNibble_nibbles, loNibble_nibbles, dispOf_nibbles, hl])
  | mvo l1 l2 b1 d1 b2 d2 | pack l1 l2 b1 d1 b2 d2 | unpk l1 l2 b1 d1 b2 d2 | zap l1 l2 b1 d1 b2 d2 | cp l1 l2 b1 d1 b2 d2
  | ap l1 l2 b1 d1 b2 d2 | sp l1 l2 b1 d1 b2 d2 | mp l1 l2 b1 d1 b2 d2 | dp l1 l2 b1 d1 b2 d2 =>
    obtain ⟨h1, h2⟩ := (Bool.and_eq_true _ _).mp h
    have hl1 := lenField4_toNat h1
    have hl2 := lenField4_toNat h2
    exact decode_append_SS rest (by decide) rfl (by simp only [hiNibble_nibbles, loNibble_nibbles, dispOf_nibbles, hl1, hl2])

/-- The encoding of an instruction decodes to it, with nothing left over. -/
theorem decode_encode {i : Instr} (h : i.wf = true) : decode (encode i) = .ok (i, []) := by
  simpa using decodeOfEncodeGivesTheInstruction i [] h

/-- Settles O5: the fourteen words are evaluated. -/
theorem wordsOfEveryFormatDecode : Obligations.WordsOfEveryFormatDecode := by
  unfold Obligations.WordsOfEveryFormatDecode
  decide

end Sys2Proof.Machine
end

section
/-! Proofs about spec/60_exceptions.md and spec/70_reset_and_hazards.md section 3: the step of a program, the interruptions before an
instruction runs, and the taking of an interruption. -/

namespace Sys2Proof.Machine

/-! ## The fetch -/

/-- The bytes of the instruction at an even address that can be read, R486. -/
theorem State.fetchAt_ok {s : State} {a : Word} (heven : a.getLsbD 0 = false) (htwo : s.allows .read (s.code a) 2 = true)
    (hall : s.allows .read (s.code a) (ilen (s.byteAt (s.code a) 0)) = true) :
    s.fetchAt a = .ok (s.bytesFrom (s.code a) 0 (ilen (s.byteAt (s.code a) 0))) := by
  simp only [State.fetchAt, heven, htwo, hall, Bool.false_eq_true, if_false, if_true]

theorem State.fetchAt_odd {s : State} {a : Word} (h : a.getLsbD 0 = true) : s.fetchAt a = .error .specification := by
  simp only [State.fetchAt, h, if_true]

theorem State.fetchAt_unreadable {s : State} {a : Word} (heven : a.getLsbD 0 = false)
    (h : s.allows .read (s.code a) 2 = false ∨ s.allows .read (s.code a) (ilen (s.byteAt (s.code a) 0)) = false) :
    s.fetchAt a = .error .addressTranslation := by
  simp only [State.fetchAt, heven, Bool.false_eq_true, if_false]
  obtain h | h := h
  · simp only [h, Bool.false_eq_true, if_false]
  · simp only [h, Bool.false_eq_true, if_false, ite_self]

theorem step_of_fetch_error {s : State} {k : Interruption} (hs : s.status = .running) (h : s.fetchAt s.pc = .error k) :
    step s = s.interrupt k := by
  simp only [step, hs, h]

theorem step_of_decode {s : State} {bs rest : List Byte} {i : Instr} (hs : s.status = .running) (hf : s.fetchAt s.pc = .ok bs)
    (hd : decode bs = .ok (i, rest)) : step s = exec i s := by
  simp only [step, hs, hf, hd]

theorem step_of_decode_error {s : State} {bs : List Byte} {e : DecodeError} (hs : s.status = .running)
    (hf : s.fetchAt s.pc = .ok bs) (hd : decode bs = .error e) : step s = s.interrupt (decodeInterruption e) := by
  simp only [step, hs, hf, hd]

/-- Settles O6: the fetch gives the bytes, and the step is the meaning of what they decode to. -/
theorem stepRunsTheDecodedInstruction : Obligations.StepRunsTheDecodedInstruction := by
  intro s i rest hs heven htwo hall hd
  exact step_of_decode hs (State.fetchAt_ok heven htwo hall) hd

/-- Settles O7: the three refusals of the fetch, and the decoder's. -/
theorem stepInterruptsWhereNothingDecodes : Obligations.StepInterruptsWhereNothingDecodes := by
  intro s hs
  refine ⟨fun hodd => ?_, fun heven h => ?_, fun heven _ h => ?_, fun heven htwo hall op hd => ?_⟩
  · exact step_of_fetch_error hs (State.fetchAt_odd hodd)
  · exact step_of_fetch_error hs (State.fetchAt_unreadable heven (.inl h))
  · exact step_of_fetch_error hs (State.fetchAt_unreadable heven (.inr h))
  · exact step_of_decode_error hs (State.fetchAt_ok heven htwo hall) hd

/-! ## Taking an interruption -/

theorem State.interrupt_of_stxit {s : State} (h : s.stxit = true) (k : Interruption) :
    s.interrupt k = .next (if s.cfg.hasServices then { s with status := .stxit k }
      else { s.setGr 3 (k.weight.zeroExtend 32) with status := .stxit k }) := by
  cases hs : s.cfg.hasServices with
  | true => exact State.interrupt_handed h hs k
  | false => exact State.interrupt_on h hs k

theorem step_of_stxit {s : State} {k : Interruption} (h : s.status = .stxit k) : step s = s.activateStxit k := by
  simp only [step, h]

theorem step_of_stxit_service {s : State} {k : Interruption} (h : s.status = .stxit k) (hs : s.cfg.hasServices = true) :
    step s = .next ((s.resume (hostInterruption k s)).setGr 3 (k.weight.zeroExtend 32)) := by
  simp only [step_of_stxit h, State.activateStxit, hs, if_true]

/-- The weights of R440 as GR3 takes them. -/
theorem weight_of_mem {k : Interruption × Word}
    (h : k ∈ [(Interruption.addressTranslation, (0x48 : Word)), (.privilegedOperation, 0x54), (.operation, 0x58),
      (.specification, 0x5C), (.data, 0x60), (.exponentOverflow, 0x64), (.divide, 0x68), (.significance, 0x6C),
      (.exponentUnderflow, 0x70), (.decimalOverflow, 0x74), (.fixedPointOverflow, 0x78)]) :
    k.1.weight.zeroExtend 32 = k.2 := by
  revert k
  decide

/-- Settles O8: a STXIT process decides between the termination and the hand-over, and the host's state between the registers. -/
theorem takingAnInterruption : Obligations.TakingAnInterruption := by
  intro s
  refine ⟨fun k h => State.interrupt_off h k, fun k hk => ⟨fun h => ?_, fun h hsvc => ?_⟩, fun k h => ?_, fun k h hsvc => ?_⟩
  · rw [State.interrupt_of_stxit h, weight_of_mem hk]
  · refine ⟨_, hostInterruption k.1 s, rfl, step_of_stxit_service h hsvc, rfl, ?_, fun r hr => ?_, rfl, rfl, rfl, rfl, rfl, rfl, rfl⟩
    · rw [State.setGr_getGr_self, weight_of_mem hk]
    · rw [State.setGr_getGr, if_neg hr]
      rfl
  · simp only [step, h]
  · simp only [step_of_stxit h, State.activateStxit, hsvc, Bool.false_eq_true, if_false]

end Sys2Proof.Machine
end

section
/-! Proofs about spec/20_memory.md sections 2 to 5: the space of an operand, and the reading of one. -/

namespace Sys2Proof.Machine

/-! ## Spaces -/

/-- The first entry with an ALET is the one that the access list gives, log 10. -/
theorem find_alet_append {f l : List AccessEntry} {e : AccessEntry} {a : Word} (hf : ∀ x ∈ f, x.alet ≠ a) (he : e.alet = a) :
    (f ++ e :: l).find? (fun x => x.alet == a) = some e := by
  rw [List.find?_append, List.find?_eq_none.2 (fun x hx => by simpa using hf x hx), Option.none_or,
    List.find?_cons_of_pos (by simpa using he)]

theorem find_alet_none {l : List AccessEntry} {a : Word} (h : ∀ x ∈ l, x.alet ≠ a) :
    l.find? (fun x => x.alet == a) = none :=
  List.find?_eq_none.2 fun x hx => by simpa using h x hx

theorem State.spaceOf_home {s : State} {b : Reg} (h : s.asc = false ∨ b = 0 ∨ s.getAr b = 0) : s.spaceOf b = some 0 := by
  unfold State.spaceOf State.spaceOfAlet
  obtain h | h | h := h <;> simp [h]

theorem State.spaceOf_alet {s : State} {b : Reg} (hasc : s.asc = true) (hb : b ≠ 0) (ha : s.getAr b ≠ 0) :
    s.spaceOf b = (s.accessList.find? (fun e => e.alet == s.getAr b)).map (fun e => e.space) := by
  rw [State.spaceOf, State.spaceOfAlet, if_pos (by simpa [hasc] using hb), if_neg ha]

/-- Settles O13: the program space by `State.spaceOf_home`, else the first entry with the ALET. -/
theorem spaceOfAnOperand : Obligations.SpaceOfAnOperand := by
  intro s x b d
  refine ⟨rfl, rfl, fun h => State.spaceOf_home h, fun hasc hb ha hno => ?_, fun f e l hasc hb ha hl hf he => ?_⟩
  · exact (State.spaceOf_alet hasc hb ha).trans (by rw [find_alet_none hno, Option.map_none])
  · exact (State.spaceOf_alet hasc hb ha).trans (by rw [hl, find_alet_append hf he, Option.map_some])

/-! ## Reading -/

theorem State.misaligned_iff (s : State) (l : Loc) (n : Nat) :
    s.misaligned l n = true ↔ s.cfg.strictAlignment = true ∧ l.addr.toNat % n ≠ 0 := by
  simp [State.misaligned]

theorem State.misaligned_eq_false {s : State} {l : Loc} {n : Nat} (h : s.cfg.strictAlignment = false ∨ l.addr.toNat % n = 0) :
    s.misaligned l n = false := by
  unfold State.misaligned
  obtain h | h := h <;> simp [h]

@[simp] theorem State.misaligned_one (s : State) (l : Loc) : s.misaligned l 1 = false :=
  State.misaligned_eq_false (.inr (Nat.mod_one _))

/-- An operand with a byte that is not allocated may not be accessed. -/
theorem State.allows_eq_false {s : State} {k : Access} {l : Loc} {n i : Nat} (hi : i < n) (h : s.byteAllowed k l i = false) :
    s.allows k l n = false := by
  rw [Bool.eq_false_iff, Ne, State.allows_iff]
  intro hall
  exact absurd (hall i hi) (by simp [h])

theorem State.readAligned_misaligned {s : State} {l : Loc} {n : Nat} (h : s.misaligned l n = true) :
    s.readAligned l n = .error .specification := by
  rw [State.readAligned, if_pos h]

theorem State.readAligned_of_not_allows {s : State} {l : Loc} {n : Nat} (hm : s.misaligned l n = false)
    (h : s.allows .read l n = false) : s.readAligned l n = .error .addressTranslation := by
  simp only [State.readAligned, State.read, hm, h, Bool.false_eq_true, if_false]

theorem State.readAligned_ok {s : State} {l : Loc} {n : Nat} (hm : s.misaligned l n = false) (h : s.allows .read l n = true) :
    s.readAligned l n = .ok (s.value l n) := by
  simp only [State.readAligned, State.read, hm, h, Bool.false_eq_true, if_false, if_true]

/-- The bytes of a number, the leftmost one most significant, R58. -/
theorem State.ofNat_value_two (s : State) (l : Loc) : BitVec.ofNat 16 (s.value l 2) = s.byteAt l 0 ++ s.byteAt l 1 := by
  apply BitVec.eq_of_toNat_eq
  have h0 := (s.byteAt l 0).isLt
  have h1 := (s.byteAt l 1).isLt
  simp only [BitVec.toNat_ofNat, State.value, toNat_append_eq_add]
  omega

theorem State.ofNat_value_four (s : State) (l : Loc) :
    BitVec.ofNat 32 (s.value l 4) = s.byteAt l 0 ++ (s.byteAt l 1 ++ (s.byteAt l 2 ++ s.byteAt l 3)) := by
  apply BitVec.eq_of_toNat_eq
  have h : s.value l 4 < 2 ^ 32 := s.value_lt l 4
  rw [BitVec.toNat_ofNat, Nat.mod_eq_of_lt h]
  simp only [State.value, toNat_append_eq_add]
  omega

theorem State.ofNat_value_eight (s : State) (l : Loc) :
    BitVec.ofNat 64 (s.value l 8) = s.byteAt l 0 ++ (s.byteAt l 1 ++ (s.byteAt l 2 ++ (s.byteAt l 3 ++
      (s.byteAt l 4 ++ (s.byteAt l 5 ++ (s.byteAt l 6 ++ s.byteAt l 7)))))) := by
  apply BitVec.eq_of_toNat_eq
  have h : s.value l 8 < 2 ^ 64 := s.value_lt l 8
  rw [BitVec.toNat_ofNat, Nat.mod_eq_of_lt h]
  simp only [State.value, toNat_append_eq_add]
  omega

/-- Settles O14: the checks of `State.readAligned` in their order, then the bytes as one number. -/
theorem alignedReadsAreCheckedAndBigEndian : Obligations.AlignedReadsAreCheckedAndBigEndian := by
  intro s l
  have all {n : Nat} (h : ∀ i < n, s.byteAllowed .read l i = true) := (State.allows_iff s .read l n).2 h
  refine ⟨fun n hs hn => State.readAligned_misaligned ((s.misaligned_iff l n).2 ⟨hs, hn⟩), fun n i hal hi hno =>
    State.readAligned_of_not_allows (State.misaligned_eq_false hal) (State.allows_eq_false hi hno), fun hal h => ?_,
    fun hal h => ?_, fun hal h => ?_⟩
  · rw [State.readH, State.readAligned_ok (State.misaligned_eq_false hal) (all h), Except.map, State.ofNat_value_two]
  · rw [State.readW, State.readAligned_ok (State.misaligned_eq_false hal) (all h), Except.map, State.ofNat_value_four]
  · rw [State.readD, State.readAligned_ok (State.misaligned_eq_false hal) (all h), Except.map, State.ofNat_value_eight]

end Sys2Proof.Machine
end

section
/-! Proofs about the fixed-point instructions with an operand in storage, the logical arithmetic, the comparisons and the
connectives: spec/40_general_a_to_b.md sections 2 to 4, spec/41_general_c.md, spec/43_general_m_to_p.md, spec/44_general_s.md
sections 2 to 4. -/

namespace Sys2Proof.Machine

/-! ## Operands that can be read, and operands that cannot -/

theorem State.withOperand_of_ok {α : Type} {s : State} {x : Except Interruption α} {a : α} (h : x = .ok a) (f : α → Result) :
    s.withOperand x f = f a := by
  rw [h, State.withOperand_ok]

theorem State.withOperand_of_error {α : Type} {s : State} {x : Except Interruption α} {k : Interruption} (h : x = .error k)
    (f : α → Result) : s.withOperand x f = s.interrupt k := by
  rw [h, State.withOperand_error]

/-! ## A, S, AH and SH -/

/-- Settles O16: each of the four ends in R131 with its exact result; the two clauses are the two cases of R131. -/
theorem signedStorageArithmetic : Obligations.SignedStorageArithmetic := by
  intro s r1 x b d y c hc i hi
  have meaning : exec i s = s.fixedResult r1 c.2.2 4 := by
    simp only [List.mem_cons, List.not_mem_nil, or_false] at hc
    obtain rfl | rfl := hc <;> obtain ⟨rfl, w, hw, rfl⟩ | ⟨rfl, h, hh, rfl⟩ := hi
    · exact State.withOperand_of_ok hw _
    · exact State.withOperand_of_ok hh _
    · exact State.withOperand_of_ok hw _
    · exact State.withOperand_of_ok hh _
  rw [meaning]
  exact ⟨fun hlo hhi => State.fixedResult_of_fits s r1 4 hlo hhi, State.fixedResult_of_overflow s r1 4⟩

/-! ## Logical addition and subtraction -/

/-- The condition code of R134 and R274 by a sum before it is cut to a word. -/
theorem ccLogical_eq {n : Nat} {w : Word} (hw : w = BitVec.ofNat 32 n) :
    (if n < 4294967296 then (0 : BitVec 2) else 2) + (if w = 0 then 0 else 1) =
      if n < 2 ^ 32 then (if n % 2 ^ 32 = 0 then 0 else 1) else (if n % 2 ^ 32 = 0 then 2 else 3) := by
  have hzero : w = 0 ↔ n % 2 ^ 32 = 0 := by
    rw [hw, ← BitVec.toNat_inj, BitVec.toNat_ofNat]
    rfl
  have hpow : (2 : Nat) ^ 32 = 4294967296 := rfl
  simp only [hzero, hpow]
  split <;> split <;> rfl

theorem add_eq_ofNat (x y : Word) : x + y = BitVec.ofNat 32 (x.toNat + y.toNat) := by
  rw [← BitVec.toNat_inj, BitVec.toNat_add, BitVec.toNat_ofNat]

theorem sub_eq_ofNat (x y : Word) : x - y = BitVec.ofNat 32 (x.toNat + 2 ^ 32 - y.toNat) := by
  have := y.isLt
  rw [← BitVec.toNat_inj, BitVec.toNat_sub, BitVec.toNat_ofNat]
  congr 1
  omega

theorem ccAddLogical_eq (x y : Word) :
    ccAddLogical x y = if x.toNat + y.toNat < 2 ^ 32 then (if (x.toNat + y.toNat) % 2 ^ 32 = 0 then 0 else 1)
      else (if (x.toNat + y.toNat) % 2 ^ 32 = 0 then 2 else 3) := ccLogical_eq (add_eq_ofNat x y)

/-- No borrow is the carry of the addition of the complement and of 1, R274. -/
theorem ccSubLogical_eq (x y : Word) :
    ccSubLogical x y = if x.toNat + 2 ^ 32 - y.toNat < 2 ^ 32 then (if (x.toNat + 2 ^ 32 - y.toNat) % 2 ^ 32 = 0 then 0 else 1)
      else (if (x.toNat + 2 ^ 32 - y.toNat) % 2 ^ 32 = 0 then 2 else 3) := by
  have hsum : x.toNat + (4294967295 - y.toNat) + 1 = x.toNat + 2 ^ 32 - y.toNat := by
    have := y.isLt
    omega
  rw [ccSubLogical, hsum]
  exact ccLogical_eq (sub_eq_ofNat x y)

/-- Settles O17: the sum before it is cut to a word gives the result and CC. -/
theorem logicalAddAndSubtract : Obligations.LogicalAddAndSubtract := by
  intro s r1 r2 x b d y c hc
  simp only [List.mem_cons, List.not_mem_nil, or_false] at hc
  obtain rfl | rfl := hc
  · have hcc := ccAddLogical_eq (s.getGr r1) y
    have hsum := add_eq_ofNat (s.getGr r1) y
    refine ⟨decode_encode (i := .alr r1 r2) rfl, decode_encode (i := .al r1 x b d) rfl, ?_,
      fun k hk => State.withOperand_of_error hk _⟩
    rintro i len (⟨rfl, rfl, rfl⟩ | ⟨rfl, rfl, hy⟩)
    · rw [← hsum, ← hcc]
      rfl
    · rw [← hsum, ← hcc]
      exact State.withOperand_of_ok hy _
  · have hcc := ccSubLogical_eq (s.getGr r1) y
    have hsum := sub_eq_ofNat (s.getGr r1) y
    refine ⟨decode_encode (i := .slr r1 r2) rfl, decode_encode (i := .sl r1 x b d) rfl, ?_,
      fun k hk => State.withOperand_of_error hk _⟩
    rintro i len (⟨rfl, rfl, rfl⟩ | ⟨rfl, rfl, hy⟩)
    · rw [← hsum, ← hcc]
      rfl
    · rw [← hsum, ← hcc]
      exact State.withOperand_of_ok hy _

/-! ## Comparisons -/

/-- Settles O18: each of the six compares the two numbers of its rule. -/
theorem compareSetsOnlyTheConditionCode : Obligations.CompareSetsOnlyTheConditionCode := by
  intro s r1 r2 x b d w h m i2
  refine ⟨fun k hk => ⟨State.withOperand_of_error hk _, State.withOperand_of_error hk _⟩,
    fun k hk => State.withOperand_of_error hk _, fun k hk => State.withOperand_of_error hk _, fun c hc => ?_⟩
  simp only [List.mem_cons, List.not_mem_nil, or_false] at hc
  obtain rfl | rfl | rfl | rfl | rfl | rfl := hc
  · exact ⟨decode_encode (i := .cr r1 r2) rfl, fun _ => rfl⟩
  · exact ⟨decode_encode (i := .c r1 x b d) rfl, fun hw => State.withOperand_of_ok hw _⟩
  · exact ⟨decode_encode (i := .ch r1 x b d) rfl, fun hh => State.withOperand_of_ok hh _⟩
  · exact ⟨decode_encode (i := .clr r1 r2) rfl, fun _ => rfl⟩
  · exact ⟨decode_encode (i := .cl r1 x b d) rfl, fun hw => State.withOperand_of_ok hw _⟩
  · exact ⟨decode_encode (i := .cli b d i2) rfl, fun hm => State.withOperand_of_ok hm _⟩

/-- How many bytes a mask selects is the number of its bits. -/
theorem maskCount_eq_cpop (m : Mask) : maskCount m = m.cpop.toNat := by
  revert m
  decide

theorem State.read_ok {s : State} {l : Loc} {n : Nat} (h : s.allows .read l n = true) : s.read l n = .ok (s.value l n) := by
  rw [State.read_eq, if_pos h]

theorem State.read_of_not_allows {s : State} {l : Loc} {n : Nat} (h : s.allows .read l n = false) :
    s.read l n = .error .addressTranslation := by
  rw [State.read_eq, if_neg (by simp [h])]

theorem State.value_one (s : State) (l : Loc) : s.value l 1 = (s.byteAt l 0).toNat := by
  rw [State.value, State.value, Nat.zero_mul, Nat.zero_add]

theorem State.allows_one (s : State) (k : Access) (l : Loc) : s.allows k l 1 = s.byteAllowed k l 0 := by
  rw [State.allows, State.allows, Bool.true_and]

theorem State.readB_ok {s : State} {l : Loc} (h : s.byteAllowed .read l 0 = true) : s.readB l = .ok (s.byteAt l 0) := by
  rw [State.readB, State.read_ok ((s.allows_one .read l).trans h), State.value_one, Except.map, BitVec.ofNat_toNat,
    BitVec.setWidth_eq]

/-- All selected bits are 1 where none of them is 0. -/
theorem and_eq_right_iff (b m : Byte) : b &&& m = m ↔ ~~~b &&& m = 0 := by
  constructor
  · intro h
    rw [← h, ← BitVec.and_assoc, BitVec.and_comm (~~~b) b, BitVec.and_not_self]
    exact BitVec.zero_and
  · intro h
    have hsplit : (b &&& m) ||| (~~~b &&& m) = m := by
      ext i hi
      simp only [BitVec.getElem_or, BitVec.getElem_and, BitVec.getElem_not]
      cases b[i] <;> simp
    rw [h] at hsplit
    simpa using hsplit

/-- Settles O19: CLM reads as many bytes as its mask has bits, TM one. -/
theorem compareUnderMaskAndTestUnderMask : Obligations.CompareUnderMaskAndTestUnderMask := by
  intro s r1 b d m3 i2
  refine ⟨fun h => ?_, fun h => ?_⟩
  · change execClm r1 m3 b d s = _
    rw [execClm, maskCount_eq_cpop]
    by_cases hm : m3 = 0
    · rw [if_pos hm] at h
      rw [if_pos hm, State.withOperand_of_ok (State.read_ok h), if_pos (.inl hm)]
      rfl
    · rw [if_neg hm] at h
      rw [if_neg hm, State.withOperand_of_ok (State.read_ok h)]
      simp only [hm, false_or, State.ccResult, ccCompare, Nat.cast_inj, Nat.cast_lt]
      rfl
  · change execTm b d i2 s = _
    rw [execTm, State.withOperand_of_ok (State.readB_ok h)]
    simp only [ccTest, and_eq_right_iff]
    rfl

/-! ## Connectives -/

theorem ccNonzero_bne (v : Word) : ccNonzero (v != 0) = if v = 0 then 0 else 1 := by
  by_cases h : v = 0
  · subst h
    rfl
  · rw [if_neg h, bne_iff_ne.2 h]
    rfl

theorem State.logicResult_eq (s : State) (r1 : Reg) (v : Word) (len : Nat) :
    s.logicResult r1 v len = .next { s.setGr r1 v with cc := if v = 0 then 0 else 1, pc := s.nextAddr len } := by
  rw [← ccNonzero_bne]
  rfl

/-- Settles O20: each of the six ends in R248 with its connective. -/
theorem connectivesOfWords : Obligations.ConnectivesOfWords := by
  intro s r1 r2 x b d y c hc
  have meaning : decode [c.1, nibbles r1 r2] = .ok (c.2.2.1, []) ∧
      decode ([c.2.1, nibbles r1 x] ++ baseDisp b d) = .ok (c.2.2.2.1, []) ∧
      (y = s.getGr r2 → exec c.2.2.1 s = s.logicResult r1 c.2.2.2.2 2) ∧
      (s.readW (s.opX x b d) = .ok y → exec c.2.2.2.1 s = s.logicResult r1 c.2.2.2.2 4) ∧
      ∀ k, s.readW (s.opX x b d) = .error k → exec c.2.2.2.1 s = s.interrupt k := by
    simp only [List.mem_cons, List.not_mem_nil, or_false] at hc
    obtain rfl | rfl | rfl := hc
    · exact ⟨decode_encode (i := .nr r1 r2) rfl, decode_encode (i := .n r1 x b d) rfl, fun h => h ▸ rfl,
        fun hy => State.withOperand_of_ok hy _, fun k hk => State.withOperand_of_error hk _⟩
    · exact ⟨decode_encode (i := .or r1 r2) rfl, decode_encode (i := .o r1 x b d) rfl, fun h => h ▸ rfl,
        fun hy => State.withOperand_of_ok hy _, fun k hk => State.withOperand_of_error hk _⟩
    · exact ⟨decode_encode (i := .xr r1 r2) rfl, decode_encode (i := .x r1 x b d) rfl, fun h => h ▸ rfl,
        fun hy => State.withOperand_of_ok hy _, fun k hk => State.withOperand_of_error hk _⟩
  obtain ⟨hdec, hdec', hreg, hsto, herr⟩ := meaning
  refine ⟨hdec, hdec', ?_, herr⟩
  rintro i len (⟨rfl, rfl, hy⟩ | ⟨rfl, rfl, hy⟩)
  · rw [hreg hy, State.logicResult_eq]
  · rw [hsto hy, State.logicResult_eq]

end Sys2Proof.Machine
end

section
/-! Proofs about register pairs (spec/10_state.md R12): products and quotients (spec/43_general_m_to_p.md sections 2 and 4,
spec/42_general_d_to_l.md section 2). -/

namespace Sys2Proof.Machine

/-! ## Register pairs -/

theorem reg_ne_succ (r : Reg) : r ≠ r + 1 := by
  revert r
  decide

theorem isEven_of_getLsbD {r : Reg} (h : r.getLsbD 0 = false) : isEven r = true := by rw [isEven, h, Bool.not_false]

theorem State.setPair_getGr (s : State) (r q : Reg) (v : Dword) :
    (s.setPair r v).getGr q = if q = r + 1 then v.extractLsb' 0 32 else if q = r then v.extractLsb' 32 32 else s.getGr q := by
  rw [State.setPair, State.setGr_getGr, State.setGr_getGr]

theorem State.setPair_getGr_other (s : State) {r q : Reg} (v : Dword) (h : q ≠ r) (h' : q ≠ r + 1) :
    (s.setPair r v).getGr q = s.getGr q := by
  rw [State.setPair_getGr, if_neg h', if_neg h]

/-- A pair reads back what was written. -/
@[simp] theorem State.setPair_getPair (s : State) (r : Reg) (v : Dword) : (s.setPair r v).getPair r = v := by
  rw [State.getPair, State.setPair_getGr, State.setPair_getGr, if_neg (reg_ne_succ r), if_pos rfl, if_pos rfl]
  exact (BitVec.extractLsb'_append_extractLsb'_eq_extractLsb' rfl).trans BitVec.extractLsb'_eq_self

theorem toInt_bounds (x : Word) : -2 ^ 31 ≤ x.toInt ∧ x.toInt ≤ 2 ^ 31 - 1 := by
  have hlo := x.le_toInt
  have hhi := x.toInt_lt
  omega

/-! ## Products -/

/-- The exact product of two words is a number of 64 bits. -/
theorem toInt_ofInt_mul (x y : Word) : (BitVec.ofInt 64 (x.toInt * y.toInt)).toInt = x.toInt * y.toInt := by
  obtain ⟨hxlo, hxhi⟩ := toInt_bounds x
  obtain ⟨hylo, hyhi⟩ := toInt_bounds y
  have habs : |x.toInt * y.toInt| ≤ 2 ^ 31 * 2 ^ 31 := by
    rw [abs_mul]
    exact mul_le_mul (abs_le.2 ⟨hxlo, by omega⟩) (abs_le.2 ⟨hylo, by omega⟩) (abs_nonneg _) (by norm_num)
  have hbound := abs_le.1 habs
  exact BitVec.toInt_ofInt_eq_self (by decide) (by omega) (by omega)

theorem State.product_spec (s : State) (r1 : Reg) (y : Word) (len : Nat) :
    ∃ t, s.product r1 y len = .next t ∧ (t.getPair r1).toInt = (s.getGr (r1 + 1)).toInt * y.toInt ∧
      (∀ r, r ≠ r1 → r ≠ r1 + 1 → t.getGr r = s.getGr r) ∧ { t with gr := s.gr } = s.advance len := by
  refine ⟨_, rfl, ?_, fun r h h' => State.setPair_getGr_other s _ h h', rfl⟩
  exact (congrArg BitVec.toInt (State.setPair_getPair s r1 _)).trans (toInt_ofInt_mul _ _)

/-- Settles O21: MR and M end in the exact product of 64 bits. -/
theorem productsAreExact : Obligations.ProductsAreExact := by
  intro s r1 r2 x b d y h
  refine ⟨fun i len hi heven => ?_, fun hh => State.withOperand_of_ok hh _⟩
  have meaning : exec i s = s.product r1 y len := by
    obtain ⟨rfl, rfl, rfl⟩ | ⟨rfl, rfl, hy⟩ := hi
    · change execMr r1 r2 s = _
      rw [execMr, isEven_of_getLsbD heven, State.require_true]
    · change execM r1 x b d s = _
      rw [execM, isEven_of_getLsbD heven, State.require_true, State.withOperand_of_ok hy]
  rw [meaning]
  exact s.product_spec r1 y len

/-! ## Quotients -/

/-- A remainder of the sign of the dividend and less than the divisor is the one of the division toward zero. -/
theorem tmod_unique {x y q r : Int} (hx : x = q * y + r) (hr : |r| < |y|) (hsign : 0 ≤ r * x) : x.tmod y = r := by
  have hy : y ≠ 0 := by
    rintro rfl
    exact absurd hr (by simp)
  have hlt : |x.tmod y| < |y| := by
    rw [Int.abs_eq_natAbs, Int.abs_eq_natAbs, Int.natAbs_tmod]
    exact_mod_cast Nat.mod_lt _ (Int.natAbs_pos.2 hy)
  have hdvd : |y| ∣ x.tmod y - r := by
    rw [abs_dvd]
    refine ⟨q - x.tdiv y, ?_⟩
    have := Int.mul_tdiv_add_tmod x y
    linear_combination this + hx
  have hclose : |x.tmod y - r| < |y| := by
    rw [abs_lt] at hr hlt ⊢
    obtain hpos | hzero | hneg := lt_trichotomy 0 x
    · have hmod := Int.tmod_nonneg y hpos.le
      have hr0 := nonneg_of_mul_nonneg_left hsign hpos
      omega
    · rw [← hzero, Int.zero_tmod]
      omega
    · have hmod := Int.tmod_nonneg y (neg_nonneg.2 hneg.le)
      rw [Int.neg_tmod] at hmod
      have hr0 : r ≤ 0 := nonpos_of_mul_nonneg_left hsign hneg
      omega
  have := Int.eq_zero_of_abs_lt_dvd hdvd hclose
  omega

theorem tdiv_unique {x y q r : Int} (hx : x = q * y + r) (hr : |r| < |y|) (hsign : 0 ≤ r * x) : x.tdiv y = q := by
  have hy : y ≠ 0 := by
    rintro rfl
    exact absurd hr (by simp)
  have hid := Int.mul_tdiv_add_tmod x y
  rw [tmod_unique hx hr hsign] at hid
  have : y * x.tdiv y = y * q := by linear_combination hid + hx
  exact mul_left_cancel₀ hy this

theorem State.quotient_zero (s : State) (r1 : Reg) (len : Nat) : s.quotient r1 0 len = s.interrupt .divide := rfl

/-- R201 by the quotient and the remainder of the exact division. -/
theorem State.quotient_eq {s : State} {r1 : Reg} {y : Word} {q r : Int} (len : Nat) (hy : y ≠ 0)
    (hx : (s.getPair r1).toInt = q * y.toInt + r) (hr : |r| < |y.toInt|) (hsign : 0 ≤ r * (s.getPair r1).toInt) :
    s.quotient r1 y len = s.require (fits32 q) .divide
      (((s.setGr r1 (BitVec.ofInt 32 r)).setGr (r1 + 1) (BitVec.ofInt 32 q)).finish len) := by
  rw [State.quotient, tmod_unique hx hr hsign, tdiv_unique hx hr hsign, bne_iff_ne.2 hy, Bool.true_and]

theorem fits32_eq_false {v : Int} (h : v < -2 ^ 31 ∨ 2 ^ 31 - 1 < v) : fits32 v = false := by
  rw [Bool.eq_false_iff, Ne, fits32_iff]
  omega

/-- Settles O22: both instructions end in R201, by its quotient and remainder. -/
theorem divisionIsExact : Obligations.DivisionIsExact := by
  intro s r1 r2 x b d y i len hi heven
  have meaning : exec i s = s.quotient r1 y len := by
    obtain ⟨rfl, rfl, rfl⟩ | ⟨rfl, rfl, hy⟩ := hi
    · change execDr r1 r2 s = _
      rw [execDr, isEven_of_getLsbD heven, State.require_true]
    · change execD r1 x b d s = _
      rw [execD, isEven_of_getLsbD heven, State.require_true, State.withOperand_of_ok hy]
  rw [meaning]
  refine ⟨fun hy => ?_, fun hy q r hx hr hsign => ?_⟩
  · rw [hy, State.quotient_zero]
  rw [State.quotient_eq len hy hx hr hsign]
  refine ⟨fun hlo hhi => ?_, fun hover => ?_⟩
  · rw [(fits32_iff q).2 ⟨hlo, hhi⟩, State.require_true]
    obtain ⟨hylo, hyhi⟩ := toInt_bounds y
    have hybound : |y.toInt| ≤ 2 ^ 31 := abs_le.2 ⟨hylo, by omega⟩
    have hrbound := abs_lt.1 (hr.trans_le hybound)
    refine ⟨_, rfl, ?_, ?_, fun p hp hp' => ?_, rfl⟩
    · rw [State.advance_getGr, State.setGr_getGr, if_neg (reg_ne_succ r1), State.setGr_getGr_self]
      exact BitVec.toInt_ofInt_eq_self (by decide) (by omega) (by omega)
    · rw [State.advance_getGr, State.setGr_getGr_self]
      exact BitVec.toInt_ofInt_eq_self (by decide) (by omega) (by omega)
    · rw [State.advance_getGr, State.setGr_getGr, if_neg hp', State.setGr_getGr, if_neg hp]
  · rw [fits32_eq_false hover, State.require_false]

end Sys2Proof.Machine
end

section
/-! Proofs about the shifts: spec/44_general_s.md sections 5, 6 and 8. -/

namespace Sys2Proof.Machine

/-! ## Logical and right shifts -/

theorem shiftLeft_eq_ofNat {w : Nat} (x : BitVec w) (n : Nat) : x <<< n = BitVec.ofNat w (x.toNat * 2 ^ n) := by
  rw [← BitVec.toNat_inj, BitVec.toNat_shiftLeft, BitVec.toNat_ofNat, Nat.shiftLeft_eq]

theorem ushiftRight_eq_ofNat {w : Nat} (x : BitVec w) (n : Nat) : x >>> n = BitVec.ofNat w (x.toNat / 2 ^ n) := by
  have hlt : x.toNat / 2 ^ n < 2 ^ w := (Nat.div_le_self _ _).trans_lt x.isLt
  rw [← BitVec.toNat_inj, BitVec.toNat_ushiftRight, BitVec.toNat_ofNat, Nat.shiftRight_eq_div_pow, Nat.mod_eq_of_lt hlt]

/-- An arithmetic right shift is the floor of the division. -/
theorem toInt_sshiftRight_eq_div {w : Nat} (x : BitVec w) (n : Nat) : (x.sshiftRight n).toInt = x.toInt / 2 ^ n := by
  rw [BitVec.toInt_sshiftRight, Int.shiftRight_eq_div_pow]
  norm_cast

/-- Settles O28: the count is `State.shiftCount`, the shifts are products and quotients by a power of 2. -/
theorem logicalAndRightShifts : Obligations.LogicalAndRightShifts := by
  intro s r1 b d n hn
  have hcount : s.shiftCount b d = n := hn.symm
  refine ⟨?_, ?_, fun heven => ⟨?_, ?_⟩, ?_, fun heven => ?_⟩
  · change execSll r1 b d s = _
    rw [execSll, hcount, shiftLeft_eq_ofNat]
    rfl
  · change execSrl r1 b d s = _
    rw [execSrl, hcount, ushiftRight_eq_ofNat]
    rfl
  · change execSldl r1 b d s = _
    rw [execSldl, isEven_of_getLsbD heven, State.require_true, hcount, shiftLeft_eq_ofNat]
    rfl
  · change execSrdl r1 b d s = _
    rw [execSrdl, isEven_of_getLsbD heven, State.require_true, hcount, ushiftRight_eq_ofNat]
    rfl
  · change ∃ t, execSra r1 b d s = .next t ∧ _
    rw [execSra, hcount, State.grCcResult]
    refine ⟨_, rfl, ?_, ?_, fun r hr => ?_, rfl⟩
    · rw [State.advance_getGr, State.setCc_getGr, State.setGr_getGr_self, toInt_sshiftRight_eq_div]
    · rw [State.advance_getGr, State.setCc_getGr, State.setGr_getGr_self]
      rfl
    · rw [State.advance_getGr, State.setCc_getGr, State.setGr_getGr, if_neg hr]
  · change ∃ t, execSrda r1 b d s = .next t ∧ _
    rw [execSrda, hcount, isEven_of_getLsbD heven, State.require_true]
    have hpair (v : Dword) (c : BitVec 2) : (((s.setPair r1 v).setCc c).advance 4).getPair r1 = v := State.setPair_getPair s r1 v
    refine ⟨_, rfl, ?_, ?_, fun r hr hr' => State.setPair_getGr_other s _ hr hr', rfl⟩
    · rw [hpair, toInt_sshiftRight_eq_div]
    · rw [hpair]
      rfl

/-! ## Arithmetic left shifts -/

/-- The sign bit and the bits that moved, put together as numbers. -/
theorem toNat_sign_or_shifted {w : Nat} (x sign rest : BitVec (w + 1)) (n : Nat) (hsign : sign.toNat = 2 ^ w)
    (hrest : rest.toNat = 2 ^ w - 1) :
    ((x &&& sign) ||| ((x <<< n) &&& rest)).toNat = x.toNat / 2 ^ w * 2 ^ w + x.toNat * 2 ^ n % 2 ^ w := by
  have hdvd : (2 : Nat) ^ w ∣ 2 ^ (w + 1) := pow_dvd_pow 2 w.le_succ
  have hhigh : x.toNat / 2 ^ w < 2 := by
    rw [Nat.div_lt_iff_lt_mul (by positivity), mul_comm, ← pow_succ]
    exact x.isLt
  have hbit : x.toNat &&& 2 ^ w = 2 ^ w * (x.toNat / 2 ^ w) := by
    rw [Nat.and_two_pow, Nat.testBit_eq_decide_div_mod_eq, Nat.mod_eq_of_lt hhigh, mul_comm]
    congr 1
    interval_cases x.toNat / 2 ^ w <;> rfl
  rw [BitVec.toNat_or, BitVec.toNat_and, BitVec.toNat_and, hsign, hrest, Nat.and_two_pow_sub_one_eq_mod, BitVec.toNat_shiftLeft,
    Nat.shiftLeft_eq, Nat.mod_mod_of_dvd _ hdvd, hbit, ← Nat.two_pow_add_eq_or_of_lt (Nat.mod_lt _ (by positivity)), mul_comm]

/-- The same where the sign is 0 or 1 and the product with p fits, m being the weight of the sign bit. -/
theorem shifted_eq_product {m p a : Nat} (hp : 0 < p) (ha : a < 2 * m)
    (hlo : -(m : Int) ≤ (if a < m then (a : Int) else a - 2 * m) * p) (hhi : (if a < m then (a : Int) else a - 2 * m) * p < m) :
    (if a / m * m + a * p % m < m then ((a / m * m + a * p % m : Nat) : Int) else (a / m * m + a * p % m : Nat) - 2 * m) =
      (if a < m then (a : Int) else a - 2 * m) * p := by
  by_cases hsign : a < m
  · simp only [if_pos hsign] at *
    have hfit : a * p < m := by exact_mod_cast hhi
    rw [Nat.div_eq_of_lt hsign, Nat.mod_eq_of_lt hfit, Nat.zero_mul, Nat.zero_add, if_pos hfit, Nat.cast_mul]
  · simp only [if_neg hsign] at *
    obtain ⟨e, he⟩ : ∃ e, a + e = 2 * m := ⟨2 * m - a, by omega⟩
    have hneg : ((a : Int) - 2 * m) * p = -((e * p : Nat) : Int) := by
      have hcast : (a : Int) + e = 2 * m := by exact_mod_cast he
      push_cast
      linear_combination (p : Int) * hcast
    rw [hneg] at hlo ⊢
    have hle : e * p ≤ m := by omega
    have hep : 0 < e * p := Nat.mul_pos (by omega) hp
    have hsum : a * p = (m - e * p) + m * (2 * p - 1) := by
      have h1 : a * p + e * p = 2 * m * p := by rw [← Nat.add_mul, he]
      have h2 : m * (2 * p - 1) + m = 2 * m * p := by
        obtain ⟨k, rfl⟩ : ∃ k, p = k + 1 := ⟨p - 1, by omega⟩
        rw [show 2 * (k + 1) - 1 = 2 * k + 1 by omega]
        ring
      omega
    have hdiv : a / m = 1 := Nat.div_eq_of_lt_le (by omega) (by omega)
    rw [hdiv, hsum, Nat.add_mul_mod_self_left, Nat.mod_eq_of_lt (by omega), if_neg (by omega)]
    omega

theorem toInt_eq_ite_half {w : Nat} (x : BitVec (w + 1)) :
    x.toInt = if x.toNat < 2 ^ w then (x.toNat : Int) else x.toNat - 2 * (2 ^ w : Nat) := by
  have hpow : (2 : Nat) ^ (w + 1) = 2 * 2 ^ w := by rw [pow_succ, mul_comm]
  rw [BitVec.toInt_eq_toNat_cond, hpow]
  split_ifs <;> omega

/-- Where the product with a power of 2 fits, the shifted number is the product. -/
theorem toInt_of_shifted {w : Nat} {x r : BitVec (w + 1)} {n : Nat}
    (hr : r.toNat = x.toNat / 2 ^ w * 2 ^ w + x.toNat * 2 ^ n % 2 ^ w) (hlo : -2 ^ w ≤ x.toInt * 2 ^ n)
    (hhi : x.toInt * 2 ^ n ≤ 2 ^ w - 1) : r.toInt = x.toInt * 2 ^ n := by
  have hx : x.toNat < 2 * 2 ^ w := by
    rw [mul_comm, ← pow_succ]
    exact x.isLt
  have hw : ((2 ^ w : Nat) : Int) = 2 ^ w := by norm_cast
  have hn : ((2 ^ n : Nat) : Int) = 2 ^ n := by norm_cast
  rw [toInt_eq_ite_half] at hlo hhi ⊢
  rw [toInt_eq_ite_half, hr, ← hn]
  rw [← hn] at hlo hhi
  refine shifted_eq_product (by positivity) hx ?_ ?_
  · rw [hw] at hlo ⊢
    exact hlo
  · rw [hw] at hhi ⊢
    omega

theorem shiftLeft32_toNat (x : Word) (n : Nat) :
    (shiftLeft32 x n).toNat = x.toNat / 2 ^ 31 * 2 ^ 31 + x.toNat * 2 ^ n % 2 ^ 31 := toNat_sign_or_shifted x _ _ n rfl rfl

theorem shiftLeft64_toNat (x : Dword) (n : Nat) :
    (shiftLeft64 x n).toNat = x.toNat / 2 ^ 63 * 2 ^ 63 + x.toNat * 2 ^ n % 2 ^ 63 := toNat_sign_or_shifted x _ _ n rfl rfl

/-- The product with a power of 2 has the sign of the number. -/
theorem ccSigned_mul_two_pow (v : Int) (n : Nat) : ccSigned (v * 2 ^ n) = if v = 0 then 0 else if v < 0 then 1 else 2 := by
  have hpos : (0 : Int) < 2 ^ n := by positivity
  have hzero : v * 2 ^ n = 0 ↔ v = 0 := by simp
  have hneg : v * 2 ^ n < 0 ↔ v < 0 := ⟨fun h => neg_of_mul_neg_left h hpos.le, fun h => mul_neg_of_neg_of_pos h hpos⟩
  simp only [ccSigned, hzero, hneg]

theorem fits64_iff (v : Int) : fits64 v = true ↔ -2 ^ 63 ≤ v ∧ v ≤ 2 ^ 63 - 1 := by
  rw [fits64, Bool.and_eq_true, decide_eq_true_iff, decide_eq_true_iff]
  norm_num

theorem fits64_eq_false {v : Int} (h : v < -2 ^ 63 ∨ 2 ^ 63 - 1 < v) : fits64 v = false := by
  rw [Bool.eq_false_iff, Ne, fits64_iff]
  omega

/-- The end of SLA and SLDA where the product does not fit. -/
theorem complete_fixedOverflow_false (s t : State) (len : Nat) :
    t.complete len (s.fixedOverflow false) =
      if s.pm.getMsbD 0 then (t.advance len).interrupt .fixedPointOverflow else .next (t.advance len) :=
  State.complete_masked t len s.maskFixed .fixedPointOverflow

/-- Settles O29: the shifted register as a number, which is the product where that fits. -/
theorem arithmeticLeftShifts : Obligations.ArithmeticLeftShifts := by
  intro s r1 b d n hn
  have hcount : s.shiftCount b d = n := hn.symm
  refine ⟨?_, fun heven => ?_⟩
  · have hsla : exec (.sla r1 b d) s = execSla r1 b d s := rfl
    rw [hsla, execSla, hcount]
    refine ⟨((s.setGr r1 (shiftLeft32 (s.getGr r1) n)).setCc
      (ccFixed (fits32 ((s.getGr r1).toInt * 2 ^ n)) (shiftLeft32 (s.getGr r1) n).toInt)).advance 4, ?_, fun r hr => ?_, rfl,
      fun hlo hhi => ?_, fun hover => ?_⟩
    · rw [State.advance_getGr, State.setCc_getGr, State.setGr_getGr_self, shiftLeft32_toNat]
    · rw [State.advance_getGr, State.setCc_getGr, State.setGr_getGr, if_neg hr]
    · have hprod := toInt_of_shifted (shiftLeft32_toNat _ _) hlo hhi
      rw [(fits32_iff _).2 ⟨hlo, hhi⟩, hprod]
      refine ⟨rfl, ?_, ccSigned_mul_two_pow _ _⟩
      rw [State.advance_getGr, State.setCc_getGr, State.setGr_getGr_self, hprod]
    · rw [fits32_eq_false hover]
      exact ⟨rfl, complete_fixedOverflow_false s _ 4⟩
  · have hslda : exec (.slda r1 b d) s = execSlda r1 b d s := rfl
    rw [hslda, execSlda, hcount, isEven_of_getLsbD heven, State.require_true]
    have hpair (v : Dword) (c : BitVec 2) : (((s.setPair r1 v).setCc c).advance 4).getPair r1 = v := State.setPair_getPair s r1 v
    refine ⟨((s.setPair r1 (shiftLeft64 (s.getPair r1) n)).setCc
      (ccFixed (fits64 ((s.getPair r1).toInt * 2 ^ n)) (shiftLeft64 (s.getPair r1) n).toInt)).advance 4, ?_,
      fun r hr hr' => State.setPair_getGr_other s _ hr hr', rfl, fun hlo hhi => ?_, fun hover => ?_⟩
    · rw [hpair, shiftLeft64_toNat]
    · have hprod := toInt_of_shifted (shiftLeft64_toNat _ _) hlo hhi
      rw [(fits64_iff _).2 ⟨hlo, hhi⟩, hprod]
      refine ⟨rfl, ?_, ccSigned_mul_two_pow _ _⟩
      rw [hpair, hprod]
    · rw [fits64_eq_false hover]
      exact ⟨rfl, complete_fixedOverflow_false s _ 4⟩

end Sys2Proof.Machine
end

section
/-! Proofs about the loads of one register and the branches: spec/42_general_d_to_l.md sections 3 to 8, spec/40_general_a_to_b.md
sections 5 to 11. -/

namespace Sys2Proof.Machine

/-! ## Loads of one register -/

/-- A word with a byte replaced, bit by bit. -/
theorem setByteOf_getLsbD (w : Word) {j : Nat} (v : Byte) (hj : j < 4) (i : Nat) :
    (setByteOf w j v).getLsbD i =
      if 8 * (3 - j) ≤ i ∧ i < 8 * (3 - j) + 8 then v.getLsbD (i - 8 * (3 - j)) else w.getLsbD i := by
  have hmask : (0xFF : Word) = (0xFF#8).zeroExtend 32 := rfl
  have hones : 0xFF#8 = BitVec.allOnes 8 := rfl
  by_cases hi : i < 32
  · simp only [setByteOf, hmask, hones, BitVec.getLsbD_or, BitVec.getLsbD_and, BitVec.getLsbD_not, BitVec.getLsbD_shiftLeft,
      BitVec.getLsbD_setWidth, BitVec.getLsbD_allOnes, hi, decide_true, Bool.true_and]
    by_cases hlo : i < 8 * (3 - j)
    · simp [hlo, Nat.not_le.2 hlo]
    · by_cases hup : i - 8 * (3 - j) < 8
      · rw [if_pos (by omega)]
        simp [hlo, hup, show i - 8 * (3 - j) < 32 by omega]
      · rw [if_neg (by omega)]
        simp [hlo, hup, BitVec.getLsbD_of_ge v _ (Nat.le_of_not_lt hup)]
  · rw [BitVec.getLsbD_of_ge _ _ (Nat.le_of_not_lt hi), BitVec.getLsbD_of_ge w _ (Nat.le_of_not_lt hi), if_neg (by omega)]

theorem setByteOf_three (w : Word) (v : Byte) : setByteOf w 3 v = w.extractLsb' 8 24 ++ v := by
  apply BitVec.eq_of_getLsbD_eq
  intro i hi
  rw [setByteOf_getLsbD w v (by decide), BitVec.getLsbD_append, BitVec.getLsbD_extractLsb']
  split_ifs with h1 h2 h2
  · rfl
  · omega
  · omega
  · rw [decide_eq_true (by omega), Bool.true_and]
    congr 1
    omega

theorem setByteOf_two (w : Word) (v : Byte) : setByteOf w 2 v = w.extractLsb' 16 16 ++ (v ++ w.extractLsb' 0 8) := by
  apply BitVec.eq_of_getLsbD_eq
  intro i hi
  rw [setByteOf_getLsbD w v (by decide), BitVec.getLsbD_append, BitVec.getLsbD_append, BitVec.getLsbD_extractLsb',
    BitVec.getLsbD_extractLsb']
  split_ifs with h1 h2 h3 h2 h3
  · omega
  · rfl
  · omega
  · rw [decide_eq_true (by omega), Bool.true_and, Nat.zero_add]
  · omega
  · rw [decide_eq_true (by omega), Bool.true_and]
    congr 1
    omega

theorem ccSigned_toInt {w : Nat} (x : BitVec w) : ccSigned x.toInt = if x = 0 then 0 else if x.msb then 1 else 2 := by
  have hzero : x.toInt = 0 ↔ x = 0 := by
    rw [← BitVec.toInt_zero (w := w), BitVec.toInt_inj]
    rfl
  have hneg : x.toInt < 0 ↔ x.msb = true := by
    rw [BitVec.msb_eq_toInt, decide_eq_true_iff]
  simp only [ccSigned, hzero, hneg]

/-- Settles O23: each writes its register once; IC replaces byte 3. -/
theorem loadsOfOneRegister : Obligations.LoadsOfOneRegister := by
  intro s r1 r2 x b d w h m
  refine ⟨rfl, ?_, rfl, fun hw => State.withOperand_of_ok hw _, fun hh => State.withOperand_of_ok hh _, fun hm => ?_⟩
  · rw [← ccSigned_toInt]
    rfl
  · rw [← setByteOf_three]
    exact State.withOperand_of_ok hm _

/-! ## Link words -/

theorem nextAddr_lt (s : State) (len : Nat) : (s.nextAddr len).toNat < if s.amode then 2 ^ 31 else 2 ^ 24 := by
  rw [State.nextAddr, trunc_toNat]
  split <;> exact Nat.mod_lt _ (by decide)

theorem nextAddr_lt_half (s : State) (len : Nat) : (s.nextAddr len).toNat < 2 ^ 31 := by
  have := nextAddr_lt s len
  split at this <;> omega

/-- The mode in bit 0 of a word of 31 bits, R139 and R146. -/
theorem bit0_or (b : Bool) {w : Word} (hw : w.toNat < 2 ^ 31) : bit0 b ||| w = BitVec.ofNat 32 (b.toNat * 2 ^ 31 + w.toNat) := by
  have hb : (bit0 b).toNat = 2 ^ 31 * b.toNat := by cases b <;> rfl
  have hlt := b.toNat_lt
  apply BitVec.eq_of_toNat_eq
  rw [BitVec.toNat_or, hb, ← Nat.two_pow_add_eq_or_of_lt hw, BitVec.toNat_ofNat]
  omega

theorem saveWord_eq (s : State) (len : Nat) :
    s.saveWord len = BitVec.ofNat 32 (s.amode.toNat * 2 ^ 31 + (s.nextAddr len).toNat) :=
  bit0_or s.amode (nextAddr_lt_half s len)

/-- The link word of R136, as a number in each mode. -/
theorem linkWord_eq (s : State) (len c : Nat) (hc : s.ilenOf len / 2 = c) (hlt : c < 4) :
    s.linkWord len = if s.amode then BitVec.ofNat 32 (2 ^ 31 + (s.nextAddr len).toNat)
      else BitVec.ofNat 32 (c * 2 ^ 30 + s.cc.toNat * 2 ^ 28 + s.pm.toNat * 2 ^ 24 + (s.nextAddr len).toNat) := by
  rw [State.linkWord]
  split
  · have h := bit0_or true (nextAddr_lt_half s len)
    rwa [Bool.toNat_true, Nat.one_mul] at h
  · rename_i ham
    have hnext := nextAddr_lt s len
    rw [if_neg ham] at hnext
    have hcc := s.cc.isLt
    have hpm := s.pm.isLt
    apply BitVec.eq_of_toNat_eq
    rw [toNat_append_eq_add, toNat_append_eq_add, toNat_append_eq_add, BitVec.extractLsb'_toNat, BitVec.toNat_ofNat,
      BitVec.toNat_ofNat, hc, Nat.shiftRight_zero, Nat.mod_eq_of_lt hnext, Nat.mod_eq_of_lt (b := 2 ^ 2) (by omega)]
    omega

/-! ## Branches -/

theorem addrx_eq_trunc (s : State) (x b : Reg) (d : Disp) : trunc s.amode (s.addrx x b d) = s.addrx x b d := trunc_trunc _ _

/-- The state after a branch instruction, by its condition. -/
theorem branchIf_eq (s : State) (c : Bool) (t : Word) (len : Nat) :
    s.branchIf c t len = .next { s with pc := if c then trunc s.amode t else s.nextAddr len } := by
  cases c <;> rfl

theorem branchSetMode_eq (s : State) (r2 : Reg) (t : Word) (len : Nat) :
    s.branchSetMode r2 t len = .next { s with
      amode := if r2 = 0 then s.amode else t.msb, pc := if r2 = 0 then s.nextAddr len else trunc t.msb t } := by
  unfold State.branchSetMode
  split <;> rfl

/-- Settles O30: the link word of each, then the branch to the address formed before. -/
theorem branchAndLink : Obligations.BranchAndLink := by
  rintro s r1 r2 x b d n rfl
  have hlink2 := linkWord_eq s 2 (if s.viaEx then 2 else 1) (by unfold State.ilenOf; split <;> rfl) (by split <;> decide)
  have hlink4 := linkWord_eq s 4 2 (by unfold State.ilenOf; split <;> rfl) (by decide)
  refine ⟨?_, ?_⟩
  · have hbalr : exec (.balr r1 r2) s = (s.setGr r1 (s.linkWord 2)).branchIf (r2 != 0) (s.getGr r2) 2 := rfl
    rw [hbalr, branchIf_eq, hlink2]
    by_cases hr : r2 = 0
    · subst hr
      rfl
    · rw [if_neg hr, if_pos (bne_iff_ne.2 hr)]
      rfl
  · have hbal : exec (.bal r1 x b d) s = (s.setGr r1 (s.linkWord 4)).branchIf true (s.addrx x b d) 4 := rfl
    rw [hbal, branchIf_eq, hlink4, if_pos rfl, State.setGr_amode, addrx_eq_trunc]
    rfl

/-- The low 31 bits of a word stay under the new bit 0, R146. -/
theorem bit0_or_low (b : Bool) (w : Word) :
    bit0 b ||| (w &&& 0x7FFFFFFF) = BitVec.ofNat 32 (b.toNat * 2 ^ 31 + w.toNat % 2 ^ 31) := by
  have hlow : (w &&& 0x7FFFFFFF).toNat = w.toNat % 2 ^ 31 := Nat.and_two_pow_sub_one_eq_mod w.toNat 31
  rw [← hlow]
  exact bit0_or b (by rw [hlow]; exact Nat.mod_lt _ (by decide))

/-- Settles O31: what is saved is read off `saveWord_eq` and `bit0_or_low`, where the branch goes off the two ends of a branch. -/
theorem branchAndSave : Obligations.BranchAndSave := by
  rintro s r1 r2 x b d m hcfg rfl
  refine ⟨?_, ?_, ?_, ?_⟩
  · change execBasr r1 r2 s = _
    rw [execBasr, hcfg, State.require_true, branchIf_eq, saveWord_eq]
    by_cases hr : r2 = 0
    · subst hr
      rfl
    · rw [if_neg hr, if_pos (bne_iff_ne.2 hr)]
      rfl
  · change execBas r1 x b d s = _
    rw [execBas, hcfg, State.require_true, branchIf_eq, saveWord_eq, if_pos rfl, State.setGr_amode, addrx_eq_trunc]
    rfl
  · change execBassm r1 r2 s = _
    rw [execBassm, hcfg, State.require_true, branchSetMode_eq, saveWord_eq]
    rfl
  · change execBsm r1 r2 s = _
    rw [execBsm, hcfg, State.require_true, branchSetMode_eq, bit0_or_low]
    split <;> rfl

theorem sub_one_bne_zero_iff (x : Word) : (x - 1 != 0) = true ↔ x ≠ 1 := by rw [bne_iff_ne, Ne, sub_eq_zero]

/-- The end of a branch instruction whose condition and target are stated in other words. -/
theorem branchIf_of_iff {s : State} {c : Bool} {p : Prop} [Decidable p] (h : c = true ↔ p) (t : Word) (len : Nat) :
    s.branchIf c t len = .next { s with pc := if p then trunc s.amode t else s.nextAddr len } := by
  simp only [branchIf_eq, h]

/-- Settles O32: each of the six branches on its condition; the comparand is that of the old state. -/
theorem conditionalAndCountingBranches : Obligations.ConditionalAndCountingBranches := by
  intro s r1 r2 r3 x b d m1
  refine ⟨?_, ?_, ?_, ?_, ?_⟩
  · exact branchIf_of_iff (by rw [Bool.and_eq_true, State.ccSelected, bne_iff_ne]) _ _
  · refine (branchIf_of_iff Iff.rfl _ _).trans ?_
    rw [addrx_eq_trunc]
    rfl
  · exact branchIf_of_iff (by rw [Bool.and_eq_true, sub_one_bne_zero_iff, bne_iff_ne]) _ _
  · refine (branchIf_of_iff (sub_one_bne_zero_iff _) _ _).trans ?_
    rw [State.setGr_amode, addrx_eq_trunc]
    rfl
  · intro c hc
    have hcomp : s.comparand r3 = c := by
      rw [hc, State.comparand, isEven]
      cases r3.getLsbD 0 <;> rfl
    refine ⟨?_, ?_⟩
    · change execBxh r1 r3 b d s = _
      rw [execBxh, hcomp, branchIf_of_iff BitVec.slt_iff_toInt_lt, State.setGr_amode, addrx_eq_trunc]
      rfl
    · change execBxle r1 r3 b d s = _
      rw [execBxle, hcomp, branchIf_of_iff BitVec.sle_iff_toInt_le, State.setGr_amode, addrx_eq_trunc]
      rfl

end Sys2Proof.Machine
end

section
/-! Rules of storage that the proofs about storing instructions share: numbers by their digits, parts of an operand, and what a store
leaves as it was. -/

namespace Sys2Proof.Machine

/-! ## Numbers by their digits -/

/-- Digit k from the left of a number that is put together digit by digit. -/
theorem horner_digit {B : Nat} {f d : Nat → Nat} (hs : ∀ k, f (k + 1) = f k * B + d k) (hd : ∀ k, d k < B) {n k : Nat}
    (hk : k < n) : f n / B ^ (n - 1 - k) % B = d k := by
  have hB : 0 < B := (Nat.zero_le _).trans_lt (hd 0)
  induction n with
  | zero => omega
  | succ n ih =>
    obtain hlt | rfl := Nat.lt_succ_iff_lt_or_eq.1 hk
    · have hdiv : (f n * B + d n) / B = f n := by
        rw [Nat.mul_comm, Nat.mul_add_div hB, Nat.div_eq_of_lt (hd n), Nat.add_zero]
      rw [show n + 1 - 1 - k = n - 1 - k + 1 by omega, pow_succ', ← Nat.div_div_eq_div_mul, hs, hdiv, ih hlt]
    · rw [show k + 1 - 1 - k = 0 by omega, pow_zero, Nat.div_one, hs, Nat.add_mod, Nat.mul_mod_left, Nat.zero_add,
        Nat.mod_mod, Nat.mod_eq_of_lt (hd k)]

/-- Byte i of the number in an operand. -/
theorem State.value_digit (s : State) (l : Loc) {n i : Nat} (hi : i < n) :
    s.value l n / 256 ^ (n - 1 - i) % 256 = (s.byteAt l i).toNat :=
  horner_digit (f := s.value l) (fun _ => rfl) (fun k => (s.byteAt l k).isLt) hi

theorem State.ofNat_value_digit (s : State) (l : Loc) {n i : Nat} (hi : i < n) :
    BitVec.ofNat 8 (s.value l n / 256 ^ (n - 1 - i)) = s.byteAt l i := by
  rw [← BitVec.toNat_inj, BitVec.toNat_ofNat]
  exact s.value_digit l hi

theorem State.value_eq_zero_iff (s : State) (l : Loc) (n : Nat) : s.value l n = 0 ↔ ∀ i < n, s.byteAt l i = 0 := by
  constructor
  · intro h i hi
    have := s.ofNat_value_digit l hi
    rw [h, Nat.zero_div] at this
    exact this.symm
  · intro h
    induction n with
    | zero => rfl
    | succ n ih => rw [State.value, ih fun i hi => h i (by omega), h n (by omega)]; rfl

/-- Storage alone decides what an operand holds. -/
theorem State.value_congr_mem {s t : State} (h : t.mem = s.mem) (l : Loc) (n : Nat) : t.value l n = s.value l n :=
  State.value_congr fun i _ => by unfold State.byteAt; rw [h]

/-! ## Parts of an operand -/

theorem Loc.plus_key (l : Loc) (m i : Nat) : (l.plus m).key i = l.key (m + i) := by
  have hat : (l.plus m).at i = l.at (m + i) := by
    rw [Loc.at_eq, Loc.at_eq, Loc.plus]
    simp only [trunc_toNat, BitVec.toNat_add, BitVec.toNat_ofNat]
    split <;> omega
  rw [Loc.key, Loc.key, hat, Loc.plus]

theorem State.plus_byteAt (s : State) (l : Loc) (m i : Nat) : s.byteAt (l.plus m) i = s.byteAt l (m + i) := by
  rw [State.byteAt, State.byteAt, Loc.plus_key]

/-- The number in an operand by the numbers in its two parts. -/
theorem State.value_add (s : State) (l : Loc) (m n : Nat) :
    s.value l (m + n) = s.value l m * 256 ^ n + s.value (l.plus m) n := by
  induction n with
  | zero => rw [Nat.add_zero, pow_zero, Nat.mul_one]; rfl
  | succ n ih => rw [← Nat.add_assoc, State.value, State.value, ih, State.plus_byteAt, pow_succ]; ring

theorem State.value_plus (s : State) (l : Loc) (m n : Nat) : s.value (l.plus m) n = s.value l (m + n) % 256 ^ n := by
  rw [State.value_add, Nat.add_comm, Nat.add_mul_mod_self_right, Nat.mod_eq_of_lt (s.value_lt _ _)]

/-- The number in n bytes from byte m on, by the number in an operand of k bytes. -/
theorem State.value_part (s : State) (l : Loc) {m n k : Nat} (h : m + n ≤ k) :
    s.value (l.plus m) n = s.value l k / 256 ^ (k - m - n) % 256 ^ n := by
  obtain ⟨j, rfl⟩ : ∃ j, k = m + n + j := ⟨k - (m + n), by omega⟩
  rw [s.value_add l (m + n) j, show m + n + j - m - n = j by omega, Nat.mul_comm (s.value l (m + n)),
    Nat.mul_add_div (by positivity), Nat.div_eq_of_lt (s.value_lt _ _), Nat.add_zero, State.value_plus]

/-! ## What a store leaves as it was -/

/-- The states differ in storage at most. -/
def State.OnlyMem (s t : State) : Prop := t = { s with mem := t.mem }

section OnlyMem

variable {s t : State}

theorem State.OnlyMem.refl : s.OnlyMem s := rfl

theorem State.OnlyMem.setByte (h : s.OnlyMem t) (l : Loc) (i : Nat) (v : Byte) : s.OnlyMem (t.setByte l i v) := by
  rw [State.OnlyMem, State.setByte_eq, show t = _ from h]

theorem State.OnlyMem.store (h : s.OnlyMem t) (l : Loc) (n v : Nat) : s.OnlyMem (t.store l n v) := by
  rw [State.OnlyMem, State.store_eq, show t = _ from h]

theorem State.OnlyMem.advance (h : s.OnlyMem t) (len : Nat) : { t.advance len with mem := s.mem } = s.advance len := by
  rw [show t = _ from h]
  rfl

theorem State.OnlyMem.setCc_advance (h : s.OnlyMem t) (c : BitVec 2) (len : Nat) :
    { (t.setCc c).advance len with mem := s.mem, cc := s.cc } = s.advance len := by
  rw [show t = _ from h]
  rfl

theorem State.OnlyMem.setCc_advance_cc (h : s.OnlyMem t) (c : BitVec 2) (len : Nat) :
    { (t.setCc c).advance len with mem := s.mem } = { s.advance len with cc := c } := by
  rw [show t = _ from h]
  rfl

end OnlyMem

/-- A byte that an operand holds is none of the other operand's where no key is shared. -/
theorem State.SameOutside.byteAt {s t : State} {l : Loc} {n : Nat} (h : s.SameOutside t l n) {q : Loc} {j : Nat}
    (hq : ∀ i < n, l.key i ≠ q.key j) : t.byteAt q j = s.byteAt q j := by
  unfold State.byteAt
  cases hk : q.key j with
  | none => rfl
  | some k => exact h k fun i hi => hk ▸ hq i hi

theorem State.SameOutside.refl (s : State) (l : Loc) (n : Nat) : s.SameOutside s l n := fun _ _ => rfl

theorem State.SameOutside.mono {s t : State} {l : Loc} {m n : Nat} (h : s.SameOutside t l m) (hmn : m ≤ n) : s.SameOutside t l n :=
  fun k hk => h k fun i hi => hk i (hi.trans_le hmn)

theorem State.SameOutside.setByte {s t : State} {l : Loc} {n i : Nat} (h : s.SameOutside t l n) (hi : i < n) (v : Byte) :
    s.SameOutside (t.setByte l i v) l n := by
  intro k hk
  rw [State.setByte_get, if_neg (hk i hi)]
  exact h k hk

theorem State.store_sameOutside (s : State) (l : Loc) (n v : Nat) : s.SameOutside (s.store l n v) l n :=
  fun k hk => State.store_get_other s l n v k hk

/-- An operand of at least one byte that may be accessed has a space. -/
theorem State.space_of_allows {s : State} {k : Access} {l : Loc} {n : Nat} (h : s.allows k l n = true) (hn : 0 < n) :
    l.space ≠ none := by
  obtain ⟨sp, hsp⟩ := State.space_of_byteAllowed ((State.allows_iff s k l n).1 h 0 hn)
  rw [hsp]
  exact Option.some_ne_none sp

/-- Every store of a number reads back, changes no byte outside, and nothing but storage. -/
theorem State.store_spec {s : State} {k : Access} {l : Loc} {n v : Nat} (h : s.allows k l n = true) (hn : n ≤ 16777216)
    (hv : v < 256 ^ n) : (s.store l n v).value l n = v ∧ s.SameOutside (s.store l n v) l n ∧ s.OnlyMem (s.store l n v) := by
  refine ⟨?_, s.store_sameOutside l n v, State.OnlyMem.refl.store l n v⟩
  obtain rfl | hpos := Nat.eq_zero_or_pos n
  · rw [pow_zero, Nat.lt_one_iff] at hv
    rw [hv]
    rfl
  · rw [State.store_value s l n v (State.space_of_allows h hpos) hn, Nat.mod_eq_of_lt hv]

theorem State.write_ok {s : State} {l : Loc} {n : Nat} (h : s.allows .write l n = true) (v : Nat) :
    s.write l n v = .ok (s.store l n v) := if_pos h

theorem State.write_of_not_allows {s : State} {l : Loc} {n : Nat} (h : s.allows .write l n = false) (v : Nat) :
    s.write l n v = .error .addressTranslation := if_neg (by simp [h])

theorem State.writeAligned_ok {s : State} {l : Loc} {n : Nat} (hm : s.misaligned l n = false) (h : s.allows .write l n = true)
    (v : Nat) : s.writeAligned l n v = .ok (s.store l n v) := by
  rw [State.writeAligned, if_neg (by simp [hm]), State.write_ok h]

theorem State.writeWords_ok {s : State} {l : Loc} {n : Nat} (hm : s.misaligned l 4 = false)
    (h : s.allows .write l (4 * n) = true) (v : Nat) : s.writeWords l n v = .ok (s.store l (4 * n) v) := by
  rw [State.writeWords, if_neg (by simp [hm]), State.write_ok h]

theorem State.readWords_ok {s : State} {l : Loc} {n : Nat} (hm : s.misaligned l 4 = false)
    (h : s.allows .read l (4 * n) = true) : s.readWords l n = .ok (s.value l (4 * n)) := by
  rw [State.readWords, if_neg (by simp [hm]), State.read_ok h]

/-- An instruction that ends in the store of one number. -/
theorem State.stored_spec {s : State} {k : Access} {l : Loc} {n v : Nat} (len : Nat) (h : s.allows k l n = true)
    (hn : n ≤ 16777216) (hv : v < 256 ^ n) :
    ∃ t, (s.store l n v).finish len = .next t ∧ t.value l n = v ∧ s.SameOutside t l n ∧ { t with mem := s.mem } = s.advance len := by
  obtain ⟨hval, hout, honly⟩ := State.store_spec h hn hv
  exact ⟨_, rfl, (State.value_congr_mem (s := s.store l n v) (t := (s.store l n v).advance len) rfl l n).trans hval, hout, honly.advance len⟩

end Sys2Proof.Machine
end

section
/-! The stores of one operand, the updates of one byte, compare and swap, the calls and the clock: O26, O27, O33 and O35. -/

namespace Sys2Proof.Machine

/-! ## Stores of one operand -/

/-- What a store of n bytes answers where they may be written and stand on their boundary. -/
def State.StoresInto (s : State) (r : Result) (l : Loc) (n v len : Nat) : Prop :=
  ∃ t, r = .next t ∧ t.value l n = v ∧ s.SameOutside t l n ∧ { t with mem := s.mem } = s.advance len

theorem State.writeAligned_storesInto {s : State} {l : Loc} {n v : Nat} (len : Nat) (hm : s.misaligned l n = false)
    (ha : s.allows .write l n = true) (hn : n ≤ 16777216) (hv : v < 256 ^ n) :
    s.StoresInto (s.withOperand (s.writeAligned l n v) fun t => t.finish len) l n v len := by
  rw [State.writeAligned_ok hm ha]
  exact State.stored_spec len ha hn hv

theorem State.write_storesInto {s : State} {l : Loc} {n v : Nat} (len : Nat) (ha : s.allows .write l n = true)
    (hn : n ≤ 16777216) (hv : v < 256 ^ n) : s.StoresInto (s.withOperand (s.write l n v) fun t => t.finish len) l n v len := by
  rw [State.write_ok ha]
  exact State.stored_spec len ha hn hv

theorem isFpr_of_mem {r : Reg} (h : r.toNat ∈ [0, 2, 4, 6]) : isFpr r = true := by
  revert r
  decide

/-- Settles O26: each of the six is one store of a number that has as many bytes as the operand. -/
theorem storesOfOneOperand : Obligations.StoresOfOneOperand := by
  intro s r1 x b d i2 c hc hreg hm ha
  have hlow (w : Word) (n : Nat) : (w.extractLsb' 0 n).toNat = w.toNat % 2 ^ n := by
    rw [BitVec.extractLsb'_toNat, Nat.shiftRight_zero]
  simp only [List.mem_cons, List.not_mem_nil, or_false] at hc
  obtain rfl | rfl | rfl | rfl | rfl | rfl := hc
  · exact State.writeAligned_storesInto 4 hm ha (by decide) (s.getGr r1).isLt
  · rw [← hlow]
    exact State.writeAligned_storesInto 4 hm ha (by decide) ((s.getGr r1).extractLsb' 0 16).isLt
  · rw [← hlow]
    exact State.write_storesInto 4 ha (by decide) ((s.getGr r1).extractLsb' 0 8).isLt
  · exact State.write_storesInto 4 ha (by decide) i2.isLt
  · have hhigh : (s.getShort r1).toNat = (s.getFpr r1).toNat / 2 ^ 32 := by
      rw [State.getShort, BitVec.extractLsb'_toNat, Nat.shiftRight_eq_div_pow]
      exact Nat.mod_eq_of_lt (by omega)
    change s.StoresInto (execSte r1 x b d s) _ 4 _ 4
    rw [execSte, isFpr_of_mem (by simpa using hreg), State.require_true, ← hhigh]
    exact State.writeAligned_storesInto 4 hm ha (by decide) (s.getShort r1).isLt
  · change s.StoresInto (execStd r1 x b d s) _ 8 _ 4
    rw [execStd, isFpr_of_mem (by simpa using hreg), State.require_true]
    exact State.writeAligned_storesInto 4 hm ha (by decide) (s.getFpr r1).isLt

/-! ## Updates of one byte -/

/-- One byte stored in place, with the CC of a connective. -/
theorem State.storeByte_spec {s : State} {l : Loc} (h : s.allows .update l 1 = true) (v : Byte) {p : Prop} (c : BitVec 2)
    (h0 : p → c = 0) (h1 : ¬ p → c = 1) :
    ∃ t, s.require (s.allows .update l 1) .addressTranslation (((s.store l 1 v.toNat).setCc c).finish 4) = .next t ∧
      t.byteAt l 0 = v ∧ (p → t.cc = 0) ∧ (¬ p → t.cc = 1) ∧ s.SameOutside t l 1 ∧
      { t with mem := s.mem, cc := s.cc } = s.advance 4 := by
  obtain ⟨hval, hout, honly⟩ := State.store_spec (v := v.toNat) h (by decide) v.isLt
  rw [State.value_one] at hval
  rw [h, State.require_true]
  exact ⟨_, rfl, BitVec.eq_of_toNat_eq hval, h0, h1, hout, honly.setCc_advance c 4⟩

theorem ccNonzero_bne_zero {v : Byte} : v = 0 → ccNonzero (v != 0) = 0 := fun h => by rw [h]; rfl

theorem ccNonzero_bne_one {v : Byte} (h : ¬ v = 0) : ccNonzero (v != 0) = 1 := by
  rw [bne_iff_ne.2 h]
  rfl

/-- Settles O27: the three connectives store their result, TS a byte of ones. -/
theorem updatesOfOneByte : Obligations.UpdatesOfOneByte := by
  intro s b d i2 ha c hc
  simp only [List.mem_cons, List.not_mem_nil, or_false] at hc
  obtain rfl | rfl | rfl | rfl := hc
  · exact State.storeByte_spec ha _ _ ccNonzero_bne_zero ccNonzero_bne_one
  · exact State.storeByte_spec ha _ _ ccNonzero_bne_zero ccNonzero_bne_one
  · exact State.storeByte_spec ha _ _ (fun h => ccNonzero_bne_zero (BitVec.xor_eq_zero_iff.2 h))
      fun h => ccNonzero_bne_one (mt BitVec.xor_eq_zero_iff.1 h)
  · have hleft : (s.byteAt (s.opB b d) 0).getMsbD 0 = decide (¬ (s.byteAt (s.opB b d) 0).toNat < 128) := by
      rw [← BitVec.msb_eq_getMsbD_zero, BitVec.msb_eq_decide]
      simp
    refine State.storeByte_spec ha 0xFF _ (fun h => ?_) (fun h => ?_)
    · rw [hleft, decide_eq_false (not_not.2 h)]
      rfl
    · rw [hleft, decide_eq_true h]
      rfl

/-! ## Compare and swap -/

theorem State.interlocked_ok {s : State} {l : Loc} {n : Nat} (hn : l.addr.toNat % n = 0) (h : s.allows .update l n = true)
    (r : Result) : s.interlocked l n r = r := by
  rw [State.interlocked, hn, h]
  rfl

/-- The store of CS and CDS, with CC 0. -/
theorem State.store_cc_spec {s : State} {k : Access} {l : Loc} {n v : Nat} (h : s.allows k l n = true) (hn : n ≤ 16777216)
    (hv : v < 256 ^ n) (c : BitVec 2) :
    ∃ t, ((s.store l n v).setCc c).finish 4 = .next t ∧ t.value l n = v ∧ s.SameOutside t l n ∧
      { t with mem := s.mem } = { s.advance 4 with cc := c } := by
  obtain ⟨hval, hout, honly⟩ := State.store_spec h hn hv
  exact ⟨_, rfl, (State.value_congr_mem (s := s.store l n v) (t := ((s.store l n v).setCc c).advance 4) rfl l n).trans hval, hout,
    honly.setCc_advance_cc c 4⟩

/-- Settles O33: the interlocked update goes on with the comparison. -/
theorem compareAndSwap : Obligations.CompareAndSwap := by
  intro s r1 r3 b d
  refine ⟨fun hal hup => ?_, fun h1 h3 hal hup => ?_⟩
  · have hcs : exec (.cs r1 r3 b d) s = if s.value (s.opB b d) 4 = (s.getGr r1).toNat
        then ((s.store (s.opB b d) 4 (s.getGr r3).toNat).setCc 0).finish 4
        else s.grCcResult r1 (BitVec.ofNat 32 (s.value (s.opB b d) 4)) 1 4 := State.interlocked_ok hal hup _
    rw [hcs]
    refine ⟨fun heq => ?_, fun hne => ?_⟩
    · rw [if_pos heq]
      exact State.store_cc_spec hup (by decide) (s.getGr r3).isLt 0
    · rw [if_neg hne]
      rfl
  · have hcds : exec (.cds r1 r3 b d) s = if s.value (s.opB b d) 8 = (s.getPair r1).toNat
        then ((s.store (s.opB b d) 8 (s.getPair r3).toNat).setCc 0).finish 4
        else ((s.setPair r1 (BitVec.ofNat 64 (s.value (s.opB b d) 8))).setCc 1).finish 4 := by
      change execCds r1 r3 b d s = _
      rw [execCds, isEven_of_getLsbD h1, isEven_of_getLsbD h3]
      exact State.interlocked_ok hal hup _
    rw [hcds]
    refine ⟨fun heq => ?_, fun hne => ?_⟩
    · rw [if_pos heq]
      exact State.store_cc_spec hup (by decide) (s.getPair r3).isLt 0
    · rw [if_neg hne]
      rfl

/-! ## Calls and the clock -/

theorem step_of_service {s : State} (h : s.status = .service) : step s = s.serve := by
  rw [step, h]

theorem step_of_ended {s : State} (h : s.status = .ended) : step s = .fault .programEnded := by
  rw [step, h]

/-- Settles O35: MC checks its class, SVC hands over, the service is Host.Svc's, and STCK stores the clock that it leaves. -/
theorem callsAndClock : Obligations.CallsAndClock := by
  intro s b d c
  refine ⟨fun h => ?_, fun h => ?_, rfl, fun h => ?_, step_of_ended, fun hm ha => ?_⟩
  · change execMc b d c s = _
    rw [execMc, decide_eq_true h]
    rfl
  · change execMc b d c s = _
    rw [execMc, decide_eq_false (by omega)]
    rfl
  · rw [step_of_service h]
    exact ⟨_, _, rfl, rfl, rfl, rfl, rfl, rfl, rfl, rfl, rfl, rfl, rfl, rfl, rfl, rfl, rfl⟩
  · obtain ⟨hval, hout, honly⟩ := State.store_spec ha (by decide) s.clockNow.isLt
    have hstck : exec (.stck b d) s = (({ s.store (s.opB b d) 8 s.clockNow.toNat with tod := s.clockNow, cc := 0 } : State).useFree.finish 4) :=
      State.withOperand_of_ok (State.writeAligned_ok hm ha _) _
    refine ⟨_, hstck, (State.value_congr_mem (s := s.store (s.opB b d) 8 s.clockNow.toNat) rfl _ 8).trans hval,
      s.tod_le_clockNow, hout, ?_⟩
    rw [show s.store (s.opB b d) 8 s.clockNow.toNat = _ from honly]
    rfl

end Sys2Proof.Machine
end

section
/-! Selected bytes of a word and ranges of registers: O24 and O25. -/

namespace Sys2Proof.Machine

/-! ## Bytes of a word -/

theorem byteOf_setByteOf (w : Word) (v : Byte) {i j : Nat} (hi : i < 4) (hj : j < 4) :
    byteOf (setByteOf w j v) i = if i = j then v else byteOf w i := by
  apply BitVec.eq_of_getLsbD_eq
  intro k hk
  rw [byteOf, BitVec.getLsbD_extractLsb', setByteOf_getLsbD w v hj, decide_eq_true hk, Bool.true_and]
  split_ifs with hin hij hij
  · rw [hij, Nat.add_sub_cancel_left]
  · omega
  · omega
  · rw [byteOf, BitVec.getLsbD_extractLsb', decide_eq_true hk, Bool.true_and]

/-- What the bytes of a word are after bytes of a number have been inserted: byte k of the number goes to the k-th place named. -/
theorem byteOf_insertBytes {js : List Nat} (hn : js.Nodup) (hlt : ∀ j ∈ js, j < 4) (w : Word) (v : Nat) {i : Nat} (hi : i < 4) :
    byteOf (insertBytes w js v) i =
      if i ∈ js then BitVec.ofNat 8 (v / 256 ^ (js.length - 1 - js.idxOf i)) else byteOf w i := by
  induction js generalizing w with
  | nil => rfl
  | cons j js ih =>
    obtain ⟨hj, hn⟩ := List.nodup_cons.1 hn
    obtain ⟨hj4, hlt⟩ := List.forall_mem_cons.1 hlt
    rw [insertBytes, ih hn hlt, byteOf_setByteOf _ _ hi hj4]
    by_cases hij : i = j
    · subst hij
      rw [if_neg hj, if_pos rfl, if_pos List.mem_cons_self, List.idxOf_cons_self]
      rfl
    · rw [List.idxOf_cons_ne _ (Ne.symm hij)]
      simp only [List.mem_cons, hij, false_or, if_false, List.length_cons, Nat.succ_sub_succ, Nat.sub_zero]
      rw [show js.length - (js.idxOf i + 1) = js.length - 1 - js.idxOf i by omega]

theorem selectBytes_eq (w : Word) (js : List Nat) (acc : Nat) :
    selectBytes w js acc = acc * 256 ^ js.length + selectBytes w js 0 ∧ selectBytes w js 0 < 256 ^ js.length := by
  induction js generalizing acc with
  | nil => exact ⟨by simp [selectBytes], by simp [selectBytes]⟩
  | cons j js ih =>
    obtain ⟨hacc, hlt⟩ := ih (acc * 256 + (byteOf w j).toNat)
    obtain ⟨hzero, -⟩ := ih (0 * 256 + (byteOf w j).toNat)
    rw [selectBytes, selectBytes, hacc, hzero, List.length_cons, pow_succ']
    refine ⟨by ring, ?_⟩
    calc (0 * 256 + (byteOf w j).toNat) * 256 ^ js.length + selectBytes w js 0
        < (0 * 256 + (byteOf w j).toNat) * 256 ^ js.length + 256 ^ js.length := by omega
      _ = ((byteOf w j).toNat + 1) * 256 ^ js.length := by ring
      _ ≤ 256 * 256 ^ js.length := Nat.mul_le_mul_right _ (byteOf w j).isLt

/-- The k-th of the selected bytes of a word. -/
theorem selectBytes_digit (w : Word) {js : List Nat} {j : Nat} (hj : j ∈ js) :
    BitVec.ofNat 8 (selectBytes w js 0 / 256 ^ (js.length - 1 - js.idxOf j)) = byteOf w j := by
  induction js with
  | nil => simp at hj
  | cons i js ih =>
    obtain ⟨hsum, hlt⟩ := selectBytes_eq w js (0 * 256 + (byteOf w i).toNat)
    rw [selectBytes, hsum]
    by_cases hij : j = i
    · subst hij
      rw [List.idxOf_cons_self, List.length_cons, show js.length + 1 - 1 - 0 = js.length by omega, Nat.mul_comm,
        Nat.mul_add_div (by positivity), Nat.div_eq_of_lt hlt, Nat.zero_mul, Nat.zero_add, Nat.add_zero, BitVec.ofNat_toNat,
        BitVec.setWidth_eq]
    · have hj : j ∈ js := (List.mem_cons.1 hj).resolve_left hij
      have hidx : js.idxOf j < js.length := List.idxOf_lt_length_of_mem hj
      rw [List.idxOf_cons_ne _ (Ne.symm hij), List.length_cons,
        show js.length + 1 - 1 - (js.idxOf j + 1) = js.length - 1 - js.idxOf j by omega, ← ih hj, ← BitVec.toNat_inj,
        BitVec.toNat_ofNat, BitVec.toNat_ofNat]
      have hpow : 256 ^ js.length = 256 ^ (js.length - 1 - js.idxOf j) * 256 ^ (js.idxOf j) * 256 := by
        rw [← pow_add, ← pow_succ]
        congr 1
        omega
      rw [hpow, show ∀ a p q r : Nat, a * (p * q * 256) + r = p * (a * q * 256) + r by intros; ring,
        Nat.mul_add_div (by positivity), Nat.add_comm, Nat.add_mul_mod_self_right]

theorem maskBytes_spec (m : Mask) :
    (maskBytes m).Nodup ∧ (∀ j ∈ maskBytes m, j < 4) ∧ ∀ j < 4, (j ∈ maskBytes m ↔ m.getMsbD j = true) ∧
      (m.getMsbD j = true → (maskBytes m).idxOf j = (List.range j).countP fun i => m.getMsbD i) := by
  revert m
  decide

theorem rank_lt_maskCount {m : Mask} {j : Nat} (hj : j < 4) (hm : m.getMsbD j = true) :
    (List.range j).countP (fun i => m.getMsbD i) < maskCount m := by
  obtain ⟨-, -, hidx⟩ := maskBytes_spec m
  obtain ⟨hmem, heq⟩ := hidx j hj
  rw [← heq hm]
  exact List.idxOf_lt_length_of_mem (hmem.2 hm)

theorem maskCount_pos {m : Mask} (h : m ≠ 0) : 0 < maskCount m := by
  revert m
  decide

theorem maskCount_le (m : Mask) : maskCount m ≤ 4 := by
  revert m
  decide

theorem byteOf_eq (w : Word) {j : Nat} (hj : j < 4) : byteOf w j = w.extractLsb' (24 - 8 * j) 8 := by
  rw [byteOf, show 8 * (3 - j) = 24 - 8 * j by omega]

/-- The leftmost bit of a field is that of its first byte. -/
theorem State.half_le_value_iff (s : State) (l : Loc) {n : Nat} (hn : 0 < n) :
    2 ^ (8 * n - 1) ≤ s.value l n ↔ (s.byteAt l 0).msb = true := by
  obtain ⟨k, rfl⟩ : ∃ k, n = 1 + k := ⟨n - 1, by omega⟩
  have hpow : 2 ^ (8 * (1 + k) - 1) = 128 * 256 ^ k := by
    rw [show 8 * (1 + k) - 1 = 7 + 8 * k by omega, pow_add, pow_mul]
    rfl
  rw [hpow, s.value_add, s.value_one, BitVec.msb_eq_decide, decide_eq_true_iff]
  have hlow : s.value (l.plus 1) k < 256 ^ k := s.value_lt _ _
  change _ ↔ 128 ≤ _
  constructor
  · intro h
    by_contra hlt
    have : (s.byteAt l 0).toNat * 256 ^ k ≤ 127 * 256 ^ k := Nat.mul_le_mul_right _ (by omega)
    omega
  · intro h
    have : 128 * 256 ^ k ≤ (s.byteAt l 0).toNat * 256 ^ k := Nat.mul_le_mul_right _ h
    omega

/-- The condition code of ICM by the bytes of the field. -/
theorem State.ccInserted_value (s : State) (l : Loc) {n : Nat} (hn : 0 < n) :
    ccInserted n (s.value l n) = if ∀ i < n, s.byteAt l i = 0 then 0 else if (s.byteAt l 0).msb then 1 else 2 := by
  simp only [ccInserted, s.value_eq_zero_iff, s.half_le_value_iff l hn]

/-- The bytes of the register after ICM: those selected are the field's, in its order. -/
theorem State.byteOf_insert_value (s : State) (l : Loc) (w : Word) (m : Mask) {j : Nat} (hj : j < 4) :
    byteOf (insertBytes w (maskBytes m) (s.value l (maskCount m))) j =
      if m.getMsbD j then s.byteAt l ((List.range j).countP fun i => m.getMsbD i) else byteOf w j := by
  obtain ⟨hnodup, hlt, hidx⟩ := maskBytes_spec m
  obtain ⟨hmem, heq⟩ := hidx j hj
  rw [byteOf_insertBytes hnodup hlt w _ hj]
  by_cases hm : m.getMsbD j = true
  · rw [if_pos (hmem.2 hm), if_pos hm, heq hm]
    exact s.ofNat_value_digit l (rank_lt_maskCount hj hm)
  · rw [if_neg (mt hmem.1 hm), if_neg hm]

/-- Settles O24: ICM and STCM take the selected bytes in the order of the mask. -/
theorem charactersUnderMask : Obligations.CharactersUnderMask := by
  intro s r1 b d m3
  rw [← maskCount_eq_cpop]
  refine ⟨fun h => ?_, fun h => ?_⟩
  · change ∃ t, execIcm r1 m3 b d s = .next t ∧ _
    rw [execIcm]
    by_cases hm : m3 = 0
    · subst hm
      rw [if_pos rfl] at h
      rw [if_pos rfl, State.withOperand_of_ok (State.read_ok h)]
      refine ⟨_, rfl, fun j _ => ?_, ?_, fun r _ => rfl, rfl⟩
      · rw [if_neg (by simp)]
        rfl
      · rw [if_pos fun i (hi : i < maskCount 0) => absurd hi (Nat.not_lt_zero i)]
        rfl
    · rw [if_neg hm] at h
      rw [if_neg hm, State.withOperand_of_ok (State.read_ok h)]
      refine ⟨_, rfl, fun j hj => ?_, s.ccInserted_value _ (maskCount_pos hm), fun r hr => ?_, rfl⟩
      · rw [← byteOf_eq _ hj, ← byteOf_eq _ hj, ← s.byteOf_insert_value _ _ m3 hj]
        exact congrArg (fun w => byteOf w j) ((s.setGr_getGr r1 r1 _).trans (if_pos rfl))
      · exact (s.setGr_getGr r1 r _).trans (if_neg hr)
  · obtain ⟨-, hlt⟩ := selectBytes_eq (s.getGr r1) (maskBytes m3) 0
    obtain ⟨t, ht, hval, hout, hrest⟩ :=
      State.write_storesInto 4 h ((maskCount_le m3).trans (by decide)) hlt
    refine ⟨t, ht, fun j hj hm => ?_, hout, hrest⟩
    obtain ⟨-, -, hidx⟩ := maskBytes_spec m3
    obtain ⟨hmem, heq⟩ := hidx j hj
    rw [← byteOf_eq _ hj, ← selectBytes_digit _ (hmem.2 hm), ← t.ofNat_value_digit _ (rank_lt_maskCount hj hm), hval, heq hm]
    rfl

/-! ## Ranges of registers -/

theorem regCount_eq (r1 r3 : Reg) :
    regCount r1 r3 = if r1.toNat ≤ r3.toNat then r3.toNat - r1.toNat + 1 else r3.toNat + 17 - r1.toNat := by
  rw [regCount, BitVec.toNat_sub]
  split <;> omega

theorem regCount_le (r1 r3 : Reg) : regCount r1 r3 ≤ 16 := (r3 - r1).isLt

theorem reg_add_inj (r : Reg) {j k : Nat} (hj : j < 16) (hk : k < 16) (h : r + BitVec.ofNat 4 j = r + BitVec.ofNat 4 k) :
    j = k := by
  have := congrArg BitVec.toNat h
  simp only [BitVec.toNat_add, BitVec.toNat_ofNat] at this
  omega

/-- Register k of a range that has been loaded from a number, and every register after the range. -/
theorem State.setGrRange_getGr (s : State) (r : Reg) {n : Nat} (v : Nat) (hn : n ≤ 16) {k : Nat} (hk : k < 16) :
    (s.setGrRange r n v).getGr (r + BitVec.ofNat 4 k) =
      if k < n then BitVec.ofNat 32 (v / 4294967296 ^ (n - 1 - k)) else s.getGr (r + BitVec.ofNat 4 k) := by
  induction n generalizing v with
  | zero => rfl
  | succ n ih =>
    rw [State.setGrRange, State.setGr_getGr]
    by_cases hkn : k = n
    · rw [hkn, if_pos rfl, if_pos (by omega), show n + 1 - 1 - n = 0 by omega, pow_zero, Nat.div_one]
    · rw [if_neg fun h => hkn (reg_add_inj r hk (by omega) h), ih _ (by omega)]
      by_cases hlt : k < n
      · rw [if_pos hlt, if_pos (by omega), Nat.div_div_eq_div_mul, ← pow_succ',
          show n - 1 - k + 1 = n + 1 - 1 - k by omega]
      · rw [if_neg hlt, if_neg (by omega)]

theorem State.setArRange_getAr (s : State) (r : Reg) {n : Nat} (v : Nat) (hn : n ≤ 16) {k : Nat} (hk : k < 16) :
    (s.setArRange r n v).getAr (r + BitVec.ofNat 4 k) =
      if k < n then BitVec.ofNat 32 (v / 4294967296 ^ (n - 1 - k)) else s.getAr (r + BitVec.ofNat 4 k) := by
  induction n generalizing v with
  | zero => rfl
  | succ n ih =>
    rw [State.setArRange, State.setAr_getAr]
    by_cases hkn : k = n
    · rw [hkn, if_pos rfl, if_pos (by omega), show n + 1 - 1 - n = 0 by omega, pow_zero, Nat.div_one]
    · rw [if_neg fun h => hkn (reg_add_inj r hk (by omega) h), ih _ (by omega)]
      by_cases hlt : k < n
      · rw [if_pos hlt, if_pos (by omega), Nat.div_div_eq_div_mul, ← pow_succ',
          show n - 1 - k + 1 = n + 1 - 1 - k by omega]
      · rw [if_neg hlt, if_neg (by omega)]

theorem State.setGrRange_rest (s : State) (r : Reg) (n v : Nat) : { s.setGrRange r n v with gr := s.gr } = s := by
  induction n generalizing v with
  | zero => rfl
  | succ n ih => exact ih (v / 4294967296)

theorem State.setArRange_rest (s : State) (r : Reg) (n v : Nat) : { s.setArRange r n v with ar := s.ar } = s := by
  induction n generalizing v with
  | zero => rfl
  | succ n ih => exact ih (v / 4294967296)

/-- Word k of an operand of n words. -/
theorem State.word_of_value (s : State) (l : Loc) {n k : Nat} (hk : k < n) :
    s.value (l.plus (4 * k)) 4 = s.value l (4 * n) / 4294967296 ^ (n - 1 - k) % 4294967296 := by
  rw [s.value_part l (k := 4 * n) (by omega), show (4294967296 : Nat) = 256 ^ 4 from rfl, ← pow_mul]
  congr 3
  omega

/-- A number put together of the words of n registers. -/
theorem wordRange_lt {f d : Nat → Nat} (h0 : f 0 = 0) (hs : ∀ k, f (k + 1) = f k * 4294967296 + d k)
    (hd : ∀ k, d k < 4294967296) (n : Nat) : f n < 256 ^ (4 * n) := by
  induction n with
  | zero => rw [h0]; exact Nat.one_pos
  | succ n ih =>
    rw [hs, show 4 * (n + 1) = 4 * n + 4 by ring, pow_add]
    have := hd n
    omega

/-- The words stored by STM and STAM. -/
theorem State.writeWords_spec {s : State} {l : Loc} {n : Nat} {f d : Nat → Nat} (hm : s.misaligned l 4 = false)
    (ha : s.allows .write l (4 * n) = true) (hn : n ≤ 16) (h0 : f 0 = 0) (hs : ∀ k, f (k + 1) = f k * 4294967296 + d k)
    (hd : ∀ k, d k < 4294967296) :
    ∃ t, s.withOperand (s.writeWords l n (f n)) (fun t => t.finish 4) = .next t ∧
      (∀ k < n, t.value (l.plus (4 * k)) 4 = d k) ∧ s.SameOutside t l (4 * n) ∧ { t with mem := s.mem } = s.advance 4 := by
  rw [State.writeWords_ok hm ha]
  obtain ⟨t, ht, hval, hout, hrest⟩ := State.stored_spec 4 ha (by omega) (wordRange_lt h0 hs hd n)
  refine ⟨t, ht, fun k hk => ?_, hout, hrest⟩
  rw [t.word_of_value l hk, hval, horner_digit hs hd hk]

/-- Settles O25: a range of registers is a number whose digits to the base 2^32 are the words of the operand. -/
theorem loadAndStoreMultiple : Obligations.LoadAndStoreMultiple := by
  intro s r1 r3 b d n hn hm
  rw [← regCount_eq] at hn
  have hle : n ≤ 16 := hn ▸ regCount_le r1 r3
  refine ⟨fun ha => ⟨?_, fun hesa => ?_⟩, fun ha c hc hesa => ?_⟩
  · have hlm : exec (.lm r1 r3 b d) s = (s.setGrRange r1 n (s.value (s.opB b d) (4 * n))).finish 4 := by
      subst hn
      exact State.withOperand_of_ok (State.readWords_ok hm ha) _
    have hget {k : Nat} (hk : k < 16) := s.setGrRange_getGr r1 (s.value (s.opB b d) (4 * n)) hle hk
    refine ⟨_, hlm, fun k hk => ?_, fun k hnk hk => (hget hk).trans (if_neg (by omega)), ?_⟩
    · rw [s.word_of_value _ hk]
      exact (congrArg BitVec.toNat ((hget (by omega)).trans (if_pos hk))).trans (BitVec.toNat_ofNat _ _)
    · have hrest := s.setGrRange_rest r1 n (s.value (s.opB b d) (4 * n))
      generalize s.setGrRange r1 n (s.value (s.opB b d) (4 * n)) = u at hrest
      rw [← hrest]
      rfl
  · have hlam : exec (.lam r1 r3 b d) s = (s.setArRange r1 n (s.value (s.opB b d) (4 * n))).finish 4 := by
      subst hn
      change execLam r1 r3 b d s = _
      rw [execLam, State.requireEsa, hesa, State.require_true, State.withOperand_of_ok (State.readWords_ok hm ha)]
    have hget {k : Nat} (hk : k < 16) := s.setArRange_getAr r1 (s.value (s.opB b d) (4 * n)) hle hk
    refine ⟨_, hlam, fun k hk => ?_, fun k hnk hk => (hget hk).trans (if_neg (by omega)), ?_⟩
    · rw [s.word_of_value _ hk]
      exact (congrArg BitVec.toNat ((hget (by omega)).trans (if_pos hk))).trans (BitVec.toNat_ofNat _ _)
    · have hrest := s.setArRange_rest r1 n (s.value (s.opB b d) (4 * n))
      generalize s.setArRange r1 n (s.value (s.opB b d) (4 * n)) = u at hrest
      rw [← hrest]
      rfl
  · simp only [List.mem_cons, List.not_mem_nil, or_false] at hc
    subst hn
    obtain rfl | rfl := hc
    · exact State.writeWords_spec (f := s.grRange r1) hm ha hle rfl (fun _ => rfl) fun k => (s.getGr (r1 + BitVec.ofNat 4 k)).isLt
    · change ∃ t, execStam r1 r3 b d s = .next t ∧ _
      rw [execStam, State.requireEsa, show s.cfg.hasEsa = true from hesa, State.require_true]
      exact State.writeWords_spec (f := s.arRange r1) hm ha hle rfl (fun _ => rfl) fun k => (s.getAr (r1 + BitVec.ofNat 4 k)).isLt

end Sys2Proof.Machine
end

section
/-! The ESA instructions and EX: O57, O58 and O36. -/

namespace Sys2Proof.Machine

/-! ## ESA -/

theorem State.requireEsa_of {s : State} (h : s.cfg.hasEsa = true) (r : Result) : s.requireEsa r = r := by
  rw [State.requireEsa, h, State.require_true]

/-- The code of SAC by the numbers of base and displacement. -/
theorem State.sacCode_eq (s : State) (b : Reg) (d : Disp) :
    s.sacCode b d = BitVec.ofNat 4 (((if b = 0 then 0 else (s.getGr b).toNat) + d.toNat) / 2 ^ 8) := by
  have h0 : (s.regOrZero 0).toNat = 0 := s.regOrZero_toNat 0
  rw [State.sacCode, extractLsb'_eq_ofNat_div, s.addrSum_toNat, s.regOrZero_toNat b, h0, Nat.zero_add, ← BitVec.toNat_inj,
    BitVec.toNat_ofNat, BitVec.toNat_ofNat]
  omega

theorem State.ccAlet_none {s : State} {a : Word} (h : a ≠ 0) (hno : ∀ e ∈ s.accessList, e.alet ≠ a) : s.ccAlet a = 3 := by
  rw [State.ccAlet, if_neg h, find_alet_none hno]

theorem State.ccAlet_some {s : State} {a : Word} {f l : List AccessEntry} {e : AccessEntry} (h : a ≠ 0)
    (hl : s.accessList = f ++ e :: l) (hf : ∀ x ∈ f, x.alet ≠ a) (he : e.alet = a) :
    s.ccAlet a = if e.class2 then 2 else 1 := by
  rw [State.ccAlet, if_neg h, hl, find_alet_append hf he]

/-- Bits 0 to 6 of an ALET are zero where its number is small. -/
theorem aletHigh_bne_zero (w : Word) : (w.extractLsb' 25 7 != 0) = decide (2 ^ 25 ≤ w.toNat) := by
  have hdiv : (w.extractLsb' 25 7).toNat = w.toNat / 2 ^ 25 := by
    rw [BitVec.extractLsb'_toNat, Nat.shiftRight_eq_div_pow]
    omega
  rw [Bool.eq_iff_iff, bne_iff_ne, decide_eq_true_iff, ne_eq, ← BitVec.toNat_inj, hdiv]
  change ¬ _ = 0 ↔ _
  omega

theorem State.laeOpen_eq (s : State) (b : Reg) : s.laeOpen b = (s.asc && b != 0 && decide (2 ^ 25 ≤ (s.getAr b).toNat)) := by
  rw [State.laeOpen, aletHigh_bne_zero]

/-- Settles O57: the moves by their definition, TAR by the access list, LAE and SAC by their tests. -/
theorem accessRegistersAndModes : Obligations.AccessRegistersAndModes := by
  intro s r1 r2 x b d hesa
  have htar : exec (.tar r1 r2) s = s.ccResult (s.ccAlet (s.getAr r1)) 4 := State.requireEsa_of hesa _
  have hlae : exec (.lae r1 x b d) s = if s.laeOpen b then
      (((s.setGr r1 (Config.freeWord (2 * s.free))).setAr r1 (Config.freeWord (2 * s.free + 1))).useFree).finish 4
      else ((s.setGr r1 (s.addrx x b d)).setAr r1 (if s.asc && b != 0 then s.getAr b else 0)).finish 4 :=
    State.requireEsa_of hesa _
  refine ⟨State.requireEsa_of hesa _, State.requireEsa_of hesa _, State.requireEsa_of hesa _, ?_, fun h => ?_, fun h hno => ?_,
    fun f e l h hl hf he => ?_, fun h => ?_, fun hasc hb hlow => ?_, fun hasc hb hhigh => ?_, fun c hc h0 h2 => ?_⟩
  · rw [← setByteOf_two]
    exact State.requireEsa_of hesa _
  · rw [htar, h]
    rfl
  · rw [htar, State.ccAlet_none h hno]
    rfl
  · rw [htar, State.ccAlet_some h hl hf he]
    rfl
  · have hspace : (s.asc && b != 0) = false := by
      obtain h | h := h
      · rw [h, Bool.false_and]
      · rw [h, bne_self_eq_false, Bool.and_false]
    rw [hlae, s.laeOpen_eq, hspace, Bool.false_and]
    rfl
  · have hspace : (s.asc && b != 0) = true := by rw [hasc, bne_iff_ne.2 hb, Bool.and_true]
    rw [hlae, s.laeOpen_eq, hspace, decide_eq_false (Nat.not_le.2 hlow)]
    rfl
  · have hspace : (s.asc && b != 0) = true := by rw [hasc, bne_iff_ne.2 hb, Bool.and_true]
    rw [hlae, s.laeOpen_eq, hspace, decide_eq_true hhigh]
    exact ⟨_, _, _, rfl⟩
  · change execSac b d s = _
    rw [execSac, State.requireEsa_of hesa, s.sacCode_eq, ← hc, if_neg h0, if_neg h2]

/-- Settles O58: the code is four bits of the sum of base and displacement. -/
theorem setAddressSpaceControl : Obligations.SetAddressSpaceControl := by
  intro s b d c hesa hc
  have hcode : s.sacCode b d = BitVec.ofNat 4 c := by
    rw [s.sacCode_eq, hc, ← BitVec.toNat_inj, BitVec.toNat_ofNat, BitVec.toNat_ofNat, Nat.mod_mod]
  have hsac : exec (.sac b d) s = if BitVec.ofNat 4 c = 0 then ({ s with asc := false } : State).finish 4
      else if BitVec.ofNat 4 c = 2 then ({ s with asc := true } : State).finish 4
      else .refused (.sacUndefinedCode (BitVec.ofNat 4 c)) := by
    rw [← hcode]
    exact State.requireEsa_of hesa _
  refine ⟨decode_encode (i := .sac b d) rfl, fun h => ?_, fun h => ?_⟩
  · rw [hsac, h]
    rfl
  · rw [hsac, h]
    rfl

/-! ## EX -/

theorem State.bytesFrom_length (s : State) (l : Loc) (i n : Nat) : (s.bytesFrom l i n).length = n := by
  induction n generalizing i with
  | zero => rfl
  | succ n ih => rw [State.bytesFrom, List.length_cons, ih]

theorem ilen_pos (b : Byte) : 0 < ilen b := by
  revert b
  decide

/-- A fetched instruction has the length that its first byte tells. -/
theorem State.fetchAt_length {s : State} {a : Word} {b : Byte} {bs : List Byte} (h : s.fetchAt a = .ok (b :: bs)) :
    bs.length + 1 = ilen b := by
  unfold State.fetchAt at h
  split_ifs at h
  have hbytes := Except.ok.inj h
  obtain ⟨k, hk⟩ := Nat.exists_eq_succ_of_ne_zero (ilen_pos (s.byteAt (s.code a) 0)).ne'
  have hlen := congrArg List.length hbytes
  rw [State.bytesFrom_length] at hlen
  rw [hk, State.bytesFrom] at hbytes
  rw [← (List.cons.inj hbytes).1]
  exact hlen.symm

/-- The program stands before EX again where its target is suppressed. -/
theorem afterEx_interrupt {s : State} (h : s.viaEx = false) (k : Interruption) :
    afterEx (({ s with viaEx := true } : State).interrupt k) = s.interrupt k := by
  have hback : { s with viaEx := false } = s := by rw [← h]
  unfold State.interrupt
  split_ifs
  · exact congrArg (fun u : State => Host.Outcome.next { u with status := .terminated k }) hback
  · exact congrArg (fun u : State => Host.Outcome.next { u with status := .stxit k }) hback
  · exact congrArg (fun u : State => Host.Outcome.next { u.setGr 3 (k.weight.zeroExtend 32) with status := .stxit k }) hback

/-- The bytes that EX decodes: the second byte is changed. -/
theorem State.modifyTarget_cons {s : State} {r1 : Reg} {b1 m : Byte} (b0 : Byte) (rest : List Byte)
    (hm : m = if r1 = 0 then b1 else b1 ||| BitVec.ofNat 8 (s.getGr r1).toNat) :
    s.modifyTarget r1 (b0 :: b1 :: rest) = b0 :: m :: rest := by
  rw [hm, show BitVec.ofNat 8 (s.getGr r1).toNat = (s.getGr r1).extractLsb' 0 8 by
    rw [extractLsb'_eq_ofNat_div, pow_zero, Nat.div_one]]
  rfl

theorem exec_ex_of_decode {s : State} {r1 x b : Reg} {d : Disp} {bs tail : List Byte} {i : Instr}
    (h : s.fetchAt (s.addrx x b d) = .ok bs) (hd : decode (s.modifyTarget r1 bs) = .ok (i, tail)) :
    exec (.ex r1 x b d) s = afterEx (execTarget i { s with viaEx := true }) := by
  simp only [exec_ex, h, State.withOperand_ok, State.executeTarget, hd]

theorem exec_ex_of_decode_error {s : State} {r1 x b : Reg} {d : Disp} {bs : List Byte} {e : DecodeError}
    (h : s.fetchAt (s.addrx x b d) = .ok bs) (hd : decode (s.modifyTarget r1 bs) = .error e) :
    exec (.ex r1 x b d) s = s.interrupt (decodeInterruption e) := by
  simp only [exec_ex, h, State.withOperand_ok, State.executeTarget, hd]

/-- Settles O36: each outcome of the fetch, of the decoding and of the target. -/
theorem executeRunsTheModifiedTarget : Obligations.ExecuteRunsTheModifiedTarget := by
  intro s r1 x b d a hex ha
  subst ha
  refine ⟨fun hodd => ?_, fun heven h => ?_, fun b0 b1 rest hf m hm => ?_⟩
  · rw [exec_ex, State.fetchAt_odd hodd, State.withOperand_error]
  · rw [exec_ex, State.fetchAt_unreadable heven h, State.withOperand_error]
  · rw [← State.modifyTarget_cons b0 rest hm]
    have hlen := State.fetchAt_length hf
    refine ⟨fun i tail t hd hne ht => ?_, fun i tail f hd hne ht => ?_, fun op hd => exec_ex_of_decode_error hf hd,
      fun h => ?_, fun h => ?_⟩
    · rw [exec_ex_of_decode hf hd, ← exec_eq_execTarget hne, ht]
      rfl
    · rw [exec_ex_of_decode hf hd, ← exec_eq_execTarget hne, ht]
      rfl
    · subst h
      obtain ⟨b2, b3, rfl⟩ : ∃ b2 b3, rest = [b2, b3] := List.length_eq_two.1 (Nat.succ.inj (Nat.succ.inj hlen))
      have hd := State.modifyTarget_cons (s := s) (r1 := r1) 0x44 [b2, b3] hm
      rw [exec_ex_of_decode hf (by rw [hd]; rfl)]
      exact afterEx_interrupt hex .specification
    · subst h
      obtain rfl : rest = [] := List.eq_nil_of_length_eq_zero (Nat.succ.inj (Nat.succ.inj hlen))
      have hd := State.modifyTarget_cons (s := s) (r1 := r1) 0x18 [] hm
      rw [exec_ex_of_decode hf (i := .lr (hiNibble m) (loNibble m)) (tail := []) (by rw [hd]; rfl)]
      exact congrArg (fun v => Host.Outcome.next
        { s.setGr (hiNibble m) (s.getGr (loNibble m)) with pc := trunc s.amode (s.pc + 4), viaEx := v }) hex.symm

end Sys2Proof.Machine
end

section
/-! The floating-point instructions over the algorithms: layouts, loads, and the ends of the arithmetic instructions. O51, O53
and O54. -/

namespace Sys2Proof.Machine

/-! ## Layouts -/

theorem extractLsb'_toNat_eq_mod {w : Nat} (x : BitVec w) (k n : Nat) : (x.extractLsb' k n).toNat = x.toNat / 2 ^ k % 2 ^ n := by
  rw [extractLsb'_eq_ofNat_div, BitVec.toNat_ofNat]

theorem unpackS_eq (w : Word) : unpackS w = { neg := w.msb, chr := w.toNat / 2 ^ 24 % 2 ^ 7, man := w.toNat % 2 ^ 24 } := by
  rw [unpackS, ← BitVec.msb_eq_getMsbD_zero, extractLsb'_toNat_eq_mod, extractLsb'_toNat_eq_mod, pow_zero, Nat.div_one]
  rfl

theorem unpackL_eq (w : Dword) : unpackL w = { neg := w.msb, chr := w.toNat / 2 ^ 56 % 2 ^ 7, man := w.toNat % 2 ^ 56 } := by
  rw [unpackL, ← BitVec.msb_eq_getMsbD_zero, extractLsb'_toNat_eq_mod, extractLsb'_toNat_eq_mod, pow_zero, Nat.div_one]
  rfl

theorem unpackX_eq (w : Qword) : unpackX w =
    { neg := w.msb, chr := w.toNat / 2 ^ 120 % 2 ^ 7, man := w.toNat / 2 ^ 64 % 2 ^ 56 * 2 ^ 56 + w.toNat % 2 ^ 56 } := by
  rw [unpackX, ← BitVec.msb_eq_getMsbD_zero, extractLsb'_toNat_eq_mod, extractLsb'_toNat_eq_mod, extractLsb'_toNat_eq_mod,
    pow_zero, Nat.div_one]
  rfl

theorem headByte_toNat (neg : Bool) (c : Int) : (headByte neg c).toNat = neg.toNat * 2 ^ 7 + (c % 2 ^ 7).toNat := by
  rw [headByte, toNat_append_eq_add, BitVec.toNat_ofBool, BitVec.toNat_ofInt]
  rfl

theorem mkS_toNat (r : FNum) : (mkS r).toNat = r.neg.toNat * 2 ^ 31 + (r.chr % 2 ^ 7).toNat * 2 ^ 24 + r.man % 2 ^ 24 := by
  rw [mkS, toNat_append_eq_add, headByte_toNat, BitVec.toNat_ofNat]
  omega

theorem mkL_toNat (r : FNum) : (mkL r).toNat = r.neg.toNat * 2 ^ 63 + (r.chr % 2 ^ 7).toNat * 2 ^ 56 + r.man % 2 ^ 56 := by
  rw [mkL, toNat_append_eq_add, headByte_toNat, BitVec.toNat_ofNat]
  omega

theorem mkX_toNat (r : FNum) : (mkX r).toNat =
    (r.neg.toNat * 2 ^ 63 + (r.chr % 2 ^ 7).toNat * 2 ^ 56 + r.man / 2 ^ 56 % 2 ^ 56) * 2 ^ 64 +
      (r.neg.toNat * 2 ^ 63 + ((r.chr - 14) % 2 ^ 7).toNat * 2 ^ 56 + r.man % 2 ^ 56) := by
  rw [mkX, toNat_append_eq_add, mkL_toNat, mkL_toNat, Nat.mod_mod]

/-! ## Register numbers -/

theorem isFprPair_of_mem {r : Reg} (h : r.toNat ∈ [0, 4]) : isFprPair r = true := by
  revert r
  decide

section Forms

variable {s : State} {r1 r2 : Reg}

theorem State.shortRR_of (h1 : r1.toNat ∈ [0, 2, 4, 6]) (h2 : r2.toNat ∈ [0, 2, 4, 6]) (f : Word → Result) :
    s.shortRR r1 r2 f = f (s.getShort r2) := by
  rw [State.shortRR, isFpr_of_mem h1, isFpr_of_mem h2]
  rfl

theorem State.longRR_of (h1 : r1.toNat ∈ [0, 2, 4, 6]) (h2 : r2.toNat ∈ [0, 2, 4, 6]) (f : Dword → Result) :
    s.longRR r1 r2 f = f (s.getFpr r2) := by
  rw [State.longRR, isFpr_of_mem h1, isFpr_of_mem h2]
  rfl

theorem State.extRR_of (h1 : r1.toNat ∈ [0, 4]) (h2 : r2.toNat ∈ [0, 4]) (f : Qword → Result) :
    s.extRR r1 r2 f = f (s.getExt r2) := by
  rw [State.extRR, isFprPair_of_mem h1, isFprPair_of_mem h2]
  rfl

theorem State.shortRX_of (h1 : r1.toNat ∈ [0, 2, 4, 6]) {l : Loc} {y : Word} (hy : s.readW l = .ok y) (f : Word → Result) :
    s.shortRX r1 l f = f y := by
  rw [State.shortRX, isFpr_of_mem h1, State.require_true, State.withOperand_of_ok hy]

theorem State.longRX_of (h1 : r1.toNat ∈ [0, 2, 4, 6]) {l : Loc} {z : Dword} (hz : s.readD l = .ok z) (f : Dword → Result) :
    s.longRX r1 l f = f z := by
  rw [State.longRX, isFpr_of_mem h1, State.require_true, State.withOperand_of_ok hz]

end Forms

/-! ## Loads -/

section Sign

variable {w : Nat} (x : BitVec (1 + w))

/-- A number with its sign bit replaced. -/
theorem withSign_getLsbD (b : Bool) (i : Nat) : (BitVec.ofBool b ++ x.extractLsb' 0 w).getLsbD i =
    if i < w then x.getLsbD i else if i = w then b else false := by
  rw [BitVec.getLsbD_append, BitVec.getLsbD_extractLsb', BitVec.getLsbD_ofBool, Nat.zero_add]
  by_cases hi : i < w
  · simp [hi]
  · simp [hi, show i - w = 0 ↔ i = w by omega]

theorem getLsbD_top : x.getLsbD w = x.msb := by
  rw [BitVec.msb_eq_getLsbD_last, Nat.add_sub_cancel_left]

theorem withSign_msb : BitVec.ofBool x.msb ++ x.extractLsb' 0 w = x := by
  apply BitVec.eq_of_getLsbD_eq
  intro i hi
  rw [withSign_getLsbD]
  split_ifs with h1 h2
  · rfl
  · rw [h2, getLsbD_top]
  · omega

theorem withSign_flip : BitVec.ofBool (!x.msb) ++ x.extractLsb' 0 w = x ^^^ BitVec.twoPow (1 + w) w := by
  apply BitVec.eq_of_getLsbD_eq
  intro i hi
  rw [withSign_getLsbD, BitVec.getLsbD_xor, BitVec.getLsbD_twoPow]
  split_ifs with h1 h2
  · simp [h1.ne']
  · simp [h2, ← getLsbD_top]
  · omega

theorem withSign_true : BitVec.ofBool true ++ x.extractLsb' 0 w = x ||| BitVec.twoPow (1 + w) w := by
  apply BitVec.eq_of_getLsbD_eq
  intro i hi
  rw [withSign_getLsbD, BitVec.getLsbD_or, BitVec.getLsbD_twoPow]
  split_ifs with h1 h2
  · simp [h1.ne']
  · simp [h2]
  · omega

theorem withSign_false : BitVec.ofBool false ++ x.extractLsb' 0 w = x &&& ~~~BitVec.twoPow (1 + w) w := by
  apply BitVec.eq_of_getLsbD_eq
  intro i hi
  rw [withSign_getLsbD, BitVec.getLsbD_and, BitVec.getLsbD_not, BitVec.getLsbD_twoPow]
  split_ifs with h1 h2
  · simp [h1.ne', hi]
  · simp [h2]
  · omega

end Sign

theorem ccFloat_unpackS (b : Bool) (y : Word) : ccFloat (some (unpackS (BitVec.ofBool b ++ y.extractLsb' 0 31))) =
    if y.toNat % 2 ^ 24 = 0 then 0 else if b then 1 else 2 := by
  have hneg : (BitVec.ofBool b ++ y.extractLsb' 0 31).msb = b := by
    rw [← getLsbD_top (w := 31), withSign_getLsbD (w := 31) y]
    rfl
  have hman : (BitVec.ofBool b ++ y.extractLsb' 0 31).toNat % 2 ^ 24 = y.toNat % 2 ^ 24 := by
    rw [toNat_append_eq_add, extractLsb'_toNat_eq_mod]
    omega
  rw [unpackS_eq, hneg, hman]
  rfl

theorem ccFloat_unpackL (b : Bool) (z : Dword) : ccFloat (some (unpackL (BitVec.ofBool b ++ z.extractLsb' 0 63))) =
    if z.toNat % 2 ^ 56 = 0 then 0 else if b then 1 else 2 := by
  have hneg : (BitVec.ofBool b ++ z.extractLsb' 0 63).msb = b := by
    rw [← getLsbD_top (w := 63), withSign_getLsbD (w := 63) z]
    rfl
  have hman : (BitVec.ofBool b ++ z.extractLsb' 0 63).toNat % 2 ^ 56 = z.toNat % 2 ^ 56 := by
    rw [toNat_append_eq_add, extractLsb'_toNat_eq_mod]
    omega
  rw [unpackL_eq, hneg, hman]
  rfl

/-- Sign, bits and mantissa of the left half of a register. -/
theorem State.getShort_parts (s : State) (r : Reg) :
    (s.getShort r).msb = (s.getFpr r).msb ∧ (s.getShort r).extractLsb' 0 31 = (s.getFpr r).extractLsb' 32 31 ∧
      (s.getShort r).toNat % 2 ^ 24 = (s.getFpr r).toNat / 2 ^ 32 % 2 ^ 24 := by
  have hnat : (s.getShort r).toNat = (s.getFpr r).toNat / 2 ^ 32 := by
    rw [State.getShort, extractLsb'_toNat_eq_mod]
    omega
  refine ⟨?_, ?_, by rw [hnat]⟩
  · rw [BitVec.msb_eq_decide, BitVec.msb_eq_decide, hnat]
    simp only [decide_eq_decide]
    omega
  · rw [← BitVec.toNat_inj, extractLsb'_toNat_eq_mod, extractLsb'_toNat_eq_mod, hnat, pow_zero, Nat.div_one]

/-- Settles O54: each load with CC replaces the sign bit of what it loads. -/
theorem floatingLoads : Obligations.FloatingLoads := by
  intro s r1 r2 x b d y z h1
  refine ⟨fun hy => State.shortRX_of h1 hy _, fun hz => State.longRX_of h1 hz _, fun h2 => ?_⟩
  refine ⟨State.shortRR_of h1 h2 fun y => (s.setShort r1 y).finish 2, State.longRR_of h1 h2 fun y => (s.setFpr r1 y).finish 2, fun c hc => ?_⟩
  obtain ⟨hmsb, hbits, hman⟩ := s.getShort_parts r2
  have meaning : exec c.1 s = s.loadShortCc r1 (BitVec.ofBool c.2.2 ++ (s.getShort r2).extractLsb' 0 31) ∧
      exec c.2.1 s = s.loadLongCc r1 (BitVec.ofBool c.2.2 ++ (s.getFpr r2).extractLsb' 0 63) := by
    simp only [List.mem_cons, List.not_mem_nil, or_false] at hc
    obtain rfl | rfl | rfl | rfl := hc
    · rw [← hmsb, withSign_msb (w := 31), hmsb, withSign_msb (w := 63)]
      exact ⟨State.shortRR_of h1 h2 fun y => s.loadShortCc r1 y, State.longRR_of h1 h2 fun y => s.loadLongCc r1 y⟩
    · rw [← hmsb, withSign_flip (w := 31), hmsb, withSign_flip (w := 63)]
      exact ⟨State.shortRR_of h1 h2 fun y => s.loadShortCc r1 (y ^^^ 0x80000000),
        State.longRR_of h1 h2 fun y => s.loadLongCc r1 (y ^^^ 0x8000000000000000)⟩
    · rw [withSign_false (w := 31), withSign_false (w := 63)]
      exact ⟨State.shortRR_of h1 h2 fun y => s.loadShortCc r1 (y &&& 0x7FFFFFFF),
        State.longRR_of h1 h2 fun y => s.loadLongCc r1 (y &&& 0x7FFFFFFFFFFFFFFF)⟩
    · rw [withSign_true (w := 31), withSign_true (w := 63)]
      exact ⟨State.shortRR_of h1 h2 fun y => s.loadShortCc r1 (y ||| 0x80000000),
        State.longRR_of h1 h2 fun y => s.loadLongCc r1 (y ||| 0x8000000000000000)⟩
  obtain ⟨hshort, hlong⟩ := meaning
  rw [hshort, hlong, State.loadShortCc, State.loadLongCc, ccFloat_unpackS, ccFloat_unpackL, hbits, hman]
  exact ⟨rfl, rfl⟩

/-! ## The ends of the arithmetic instructions -/

/-- The end of an instruction whose result may raise an exception. -/
theorem State.complete_spec {s t : State} {r : Result} {len : Nat} {e : Option Interruption} (hr : r = t.complete len e)
    (hpc : t.nextAddr len = s.nextAddr len) :
    (e = none → r = .next { t with pc := s.nextAddr len }) ∧
      ∀ k, e = some k → r = ({ t with pc := s.nextAddr len } : State).interrupt k := by
  rw [← hpc, hr]
  exact ⟨fun he => he ▸ rfl, fun k he => he ▸ rfl⟩

/-- Settles O51: the layouts, and each instruction as AddSub into its register. -/
theorem floatingAddAndSubtract : Obligations.FloatingAddAndSubtract := by
  refine ⟨fun w z q => ⟨unpackS_eq w, unpackL_eq z, unpackX_eq q⟩, ⟨rfl, rfl, rfl⟩,
    fun r => ⟨mkS_toNat r, mkL_toNat r, mkX_toNat r⟩, fun _ _ _ _ => ⟨rfl, rfl, rfl, rfl⟩, ?_⟩
  intro s r1 r2 x b d y z cc hcc c hc e he h1 h
  obtain rfl : cc = ccFloat := funext fun v => (hcc v).trans (by cases v <;> rfl)
  have meaning : exec c.2.2.1 s = s.shortRR r1 r2 (fun y => s.addShort r1 y c.1 c.2.1 2) ∧
      exec c.2.2.2.1 s = s.shortRX r1 (s.opX x b d) (fun y => s.addShort r1 y c.1 c.2.1 4) ∧
      exec c.2.2.2.2.1 s = s.longRR r1 r2 (fun y => s.addLong r1 y c.1 c.2.1 2) ∧
      exec c.2.2.2.2.2 s = s.longRX r1 (s.opX x b d) (fun y => s.addLong r1 y c.1 c.2.1 4) := by
    simp only [List.mem_cons, List.not_mem_nil, or_false] at hc
    obtain rfl | rfl | rfl | rfl := hc <;> exact ⟨rfl, rfl, rfl, rfl⟩
  obtain ⟨hshort, hshortX, hlong, hlongX⟩ := meaning
  have hext (sub : Bool) : exec (if sub then .sxr r1 r2 else .axr r1 r2) s = s.extRR r1 r2 (fun y => s.addExt r1 y sub) := by
    cases sub <;> rfl
  obtain rfl | he := List.mem_cons.1 he
  · obtain ⟨h2, rfl⟩ := h
    exact State.complete_spec (hshort.trans (State.shortRR_of h1 h2 _)) rfl
  obtain rfl | he := List.mem_cons.1 he
  · exact State.complete_spec (hshortX.trans (State.shortRX_of h1 h _)) rfl
  obtain rfl | he := List.mem_cons.1 he
  · obtain ⟨h2, rfl⟩ := h
    exact State.complete_spec (hlong.trans (State.longRR_of h1 h2 _)) rfl
  obtain rfl | he := List.mem_cons.1 he
  · exact State.complete_spec (hlongX.trans (State.longRX_of h1 h _)) rfl
  obtain rfl := List.mem_singleton.1 he
  obtain ⟨hp1, hp2⟩ := h
  exact State.complete_spec ((hext c.1).trans (State.extRR_of hp1 hp2 _)) rfl

/-- The divisor's check. -/
theorem State.require_ne_zero (s : State) {n : Nat} (h : n ≠ 0) (k : Interruption) (r : Result) :
    s.require (n != 0) k r = r := by
  rw [bne_iff_ne.2 h, State.require_true]

theorem State.require_eq_zero (s : State) {n : Nat} (h : n = 0) (k : Interruption) (r : Result) :
    s.require (n != 0) k r = s.interrupt k := by
  rw [h]
  rfl

section Dxr

variable {s : State} {r1 r2 : Reg}

/-- DXR where its checks of the CPU and of the register numbers hold. -/
theorem exec_dxr (hcpu : s.cfg.has31Bit = true) (h1 : r1.toNat ∈ [0, 4]) (h2 : r2.toNat ∈ [0, 4]) :
    exec (.dxr r1 r2) s = s.require ((unpackX (s.getExt r2)).man != 0) .divide
      ((s.setExt r1 (packX (divide 28 s.maskUnderflow (unpackX (s.getExt r1)) (unpackX (s.getExt r2))).value)).complete 4
        (divide 28 s.maskUnderflow (unpackX (s.getExt r1)) (unpackX (s.getExt r2))).exc) := by
  change execDxr r1 r2 s = _
  rw [execDxr, hcpu, State.require_true, State.extRR_of h1 h2]

theorem exec_mxdr (h1 : r1.toNat ∈ [0, 4]) (h2 : r2.toNat ∈ [0, 2, 4, 6]) :
    exec (.mxdr r1 r2) s = s.mulLongExt r1 (s.getFpr r2) 2 := by
  change execMxdr r1 r2 s = _
  rw [execMxdr, isFprPair_of_mem h1, isFpr_of_mem h2, Bool.and_self, State.require_true]

theorem exec_mxd {x b : Reg} {d : Disp} {z : Dword} (h1 : r1.toNat ∈ [0, 4]) (hz : s.readD (s.opX x b d) = .ok z) :
    exec (.mxd r1 x b d) s = s.mulLongExt r1 z 4 := by
  change execMxd r1 x b d s = _
  rw [execMxd, isFprPair_of_mem h1, State.require_true, State.withOperand_of_ok hz]

theorem exec_lrdr (h1 : r1.toNat ∈ [0, 2, 4, 6]) (h2 : r2.toNat ∈ [0, 4]) :
    exec (.lrdr r1 r2) s = (s.setFpr r1 (packL (roundTo 28 14 (unpackX (s.getExt r2))).value)).complete 2
      (roundTo 28 14 (unpackX (s.getExt r2))).exc := by
  change execLrdr r1 r2 s = _
  rw [execLrdr, isFpr_of_mem h1, isFprPair_of_mem h2, Bool.and_self, State.require_true]

end Dxr

/-- Settles O53: each instruction delivers into its register; the divisions check the divisor first. -/
theorem floatingProductsQuotientsAndRounding : Obligations.FloatingProductsQuotientsAndRounding := by
  rintro s r1 r2 x b d y z _ _ _ _ rfl rfl rfl rfl
  refine ⟨fun c hc h1 h => ?_, fun c hc h1 h => ?_⟩
  obtain rfl | hc := List.mem_cons.1 hc
  · exact State.complete_spec (State.shortRR_of h1 h fun y => s.mulShort r1 y 2) rfl
  obtain rfl | hc := List.mem_cons.1 hc
  · exact State.complete_spec (State.shortRX_of h1 h fun y => s.mulShort r1 y 4) rfl
  obtain rfl | hc := List.mem_cons.1 hc
  · exact State.complete_spec (State.longRR_of h1 h fun y => s.mulLong r1 y 2) rfl
  obtain rfl | hc := List.mem_cons.1 hc
  · exact State.complete_spec (State.longRX_of h1 h fun y => s.mulLong r1 y 4) rfl
  obtain rfl | hc := List.mem_cons.1 hc
  · exact State.complete_spec (exec_mxdr h.1 h.2) rfl
  obtain rfl | hc := List.mem_cons.1 hc
  · exact State.complete_spec (exec_mxd h.1 h.2) rfl
  obtain rfl | hc := List.mem_cons.1 hc
  · exact State.complete_spec (State.extRR_of h.1 h.2 fun y =>
      (s.setExt r1 (packX (multiply 28 28 s.maskUnderflow (unpackX (s.getExt r1)) (unpackX y)).value)).complete 2
        (multiply 28 28 s.maskUnderflow (unpackX (s.getExt r1)) (unpackX y)).exc) rfl
  obtain rfl | hc := List.mem_cons.1 hc
  · exact State.complete_spec ((State.shortRR_of h1 h.1 fun y => s.divShort r1 y 2).trans (s.require_ne_zero h.2 _ _)) rfl
  obtain rfl | hc := List.mem_cons.1 hc
  · exact State.complete_spec ((State.shortRX_of h1 h.1 fun y => s.divShort r1 y 4).trans (s.require_ne_zero h.2 _ _)) rfl
  obtain rfl | hc := List.mem_cons.1 hc
  · exact State.complete_spec ((State.longRR_of h1 h.1 fun y => s.divLong r1 y 2).trans (s.require_ne_zero h.2 _ _)) rfl
  obtain rfl | hc := List.mem_cons.1 hc
  · exact State.complete_spec ((State.longRX_of h1 h.1 fun y => s.divLong r1 y 4).trans (s.require_ne_zero h.2 _ _)) rfl
  obtain rfl | hc := List.mem_cons.1 hc
  · obtain ⟨hcpu, hp1, hp2, hman⟩ := h
    exact State.complete_spec ((exec_dxr hcpu hp1 hp2).trans (s.require_ne_zero hman _ _)) rfl
  obtain rfl | hc := List.mem_cons.1 hc
  · exact State.complete_spec (State.shortRR_of h1 h fun y =>
      (s.setShort r1 (packS (halve 6 s.maskUnderflow (unpackS y)).value)).complete 2
        (halve 6 s.maskUnderflow (unpackS y)).exc) rfl
  obtain rfl | hc := List.mem_cons.1 hc
  · exact State.complete_spec (State.longRR_of h1 h fun y =>
      (s.setFpr r1 (packL (halve 14 s.maskUnderflow (unpackL y)).value)).complete 2
        (halve 14 s.maskUnderflow (unpackL y)).exc) rfl
  obtain rfl | hc := List.mem_cons.1 hc
  · exact State.complete_spec (State.longRR_of h1 h fun y =>
      (s.setShort r1 (packS (roundTo 14 6 (unpackL y)).value)).complete 2 (roundTo 14 6 (unpackL y)).exc) rfl
  · obtain rfl := List.mem_singleton.1 hc
    exact State.complete_spec (exec_lrdr h1 h) rfl
  obtain rfl | hc := List.mem_cons.1 hc
  · exact (State.shortRR_of h1 h.1 fun y => s.divShort r1 y 2).trans (s.require_eq_zero h.2 _ _)
  obtain rfl | hc := List.mem_cons.1 hc
  · exact (State.shortRX_of h1 h.1 fun y => s.divShort r1 y 4).trans (s.require_eq_zero h.2 _ _)
  obtain rfl | hc := List.mem_cons.1 hc
  · exact (State.longRR_of h1 h.1 fun y => s.divLong r1 y 2).trans (s.require_eq_zero h.2 _ _)
  obtain rfl | hc := List.mem_cons.1 hc
  · exact (State.longRX_of h1 h.1 fun y => s.divLong r1 y 4).trans (s.require_eq_zero h.2 _ _)
  · obtain rfl := List.mem_singleton.1 hc
    obtain ⟨hcpu, hp1, hp2, hman⟩ := h
    exact (exec_dxr hcpu hp1 hp2).trans (s.require_eq_zero hman _ _)

end Sys2Proof.Machine
end

section
/-! Register numbers and lengths that are not accepted, and instructions that the CPU does not have: O60. -/

namespace Sys2Proof.Machine

theorem State.require_of_false (s : State) {c : Bool} (h : c = false) (k : Interruption) (r : Result) :
    s.require c k r = s.interrupt k := by
  rw [h, State.require_false]

theorem isEven_eq_false {r : Reg} (h : r.getLsbD 0 = true) : isEven r = false := by
  rw [isEven, h]
  rfl

theorem isEven_and_eq_false {r q : Reg} (h : r.getLsbD 0 = true ∨ q.getLsbD 0 = true) : (isEven r && isEven q) = false := by
  obtain h | h := h
  · rw [isEven_eq_false h, Bool.false_and]
  · rw [isEven_eq_false h, Bool.and_false]

theorem isFpr_of_not_mem {r : Reg} (h : r.toNat ∉ [0, 2, 4, 6]) : isFpr r = false := by
  revert r
  decide

theorem isFprPair_of_not_mem {r : Reg} (h : r.toNat ∉ [0, 4]) : isFprPair r = false := by
  revert r
  decide

/-- The pairs are floating-point registers. -/
theorem isFprPair_of_isFpr {r : Reg} (h : isFpr r = false) : isFprPair r = false := by
  revert r
  decide

theorem and_eq_false_of {b c : Bool} (h : b = false ∨ c = false) : (b && c) = false := by
  obtain h | h := h
  · rw [h, Bool.false_and]
  · rw [h, Bool.and_false]

theorem lengthsOk_eq_false {l1 l2 : Nat} (h : 8 < l2 ∨ l1 ≤ l2) : lengthsOk l1 l2 = false :=
  and_eq_false_of (h.imp (fun h => decide_eq_false (by omega)) fun h => decide_eq_false (by omega))

/-- Settles O60: each of these instructions begins with the check that fails. -/
theorem wrongFieldsAndMissingInstructionsInterrupt : Obligations.WrongFieldsAndMissingInstructionsInterrupt := by
  intro s r1 r2 r3 x b b2 d d2 l1 l2
  refine ⟨fun h => ?_, fun h => ?_, fun h => ?_, fun h => ?_, fun h => ⟨?_, fun hcpu => ?_⟩, fun h => ?_, fun h => ?_, fun h => ?_,
    fun h => ?_, fun h => ?_⟩
  · simp only [List.forall_mem_cons, List.not_mem_nil, false_imp_iff, implies_true, and_true]
    and_intros <;> exact s.require_of_false (isEven_eq_false h) _ _
  · simp only [List.forall_mem_cons, List.not_mem_nil, false_imp_iff, implies_true, and_true]
    and_intros <;> exact s.require_of_false (isEven_and_eq_false h) _ _
  · have hreg : isFpr r1 = false ∨ isFpr r2 = false := h.imp isFpr_of_not_mem isFpr_of_not_mem
    have hboth : ∀ i ∈ [Instr.aer r1 r2, .ser r1 r2, .aur r1 r2, .sur r1 r2, .cer r1 r2, .mer r1 r2, .der r1 r2, .her r1 r2,
        .ler r1 r2, .lter r1 r2, .lcer r1 r2, .lper r1 r2, .lner r1 r2, .lrer r1 r2, .adr r1 r2, .sdr r1 r2, .awr r1 r2, .swr r1 r2,
        .cdr r1 r2, .mdr r1 r2, .ddr r1 r2, .hdr r1 r2, .ldr r1 r2, .ltdr r1 r2, .lcdr r1 r2, .lpdr r1 r2, .lndr r1 r2],
        exec i s = s.interrupt .specification := by
      simp only [List.forall_mem_cons, List.not_mem_nil, false_imp_iff, implies_true, and_true]
      and_intros <;> exact s.require_of_false (and_eq_false_of hreg) _ _
    have hlrdr : exec (.lrdr r1 r2) s = s.interrupt .specification :=
      s.require_of_false (and_eq_false_of (hreg.imp_right isFprPair_of_isFpr)) _ _
    have hmxdr : exec (.mxdr r1 r2) s = s.interrupt .specification :=
      s.require_of_false (and_eq_false_of (hreg.imp_left isFprPair_of_isFpr)) _ _
    exact List.forall_mem_append.2 ⟨hboth, List.forall_mem_cons.2 ⟨hlrdr, List.forall_mem_singleton.2 hmxdr⟩⟩
  · simp only [List.forall_mem_cons, List.not_mem_nil, false_imp_iff, implies_true, and_true]
    and_intros <;> exact s.require_of_false (isFpr_of_not_mem h) _ _
  · simp only [List.forall_mem_cons, List.not_mem_nil, false_imp_iff, implies_true, and_true]
    and_intros <;> exact s.require_of_false (and_eq_false_of (h.imp isFprPair_of_not_mem isFprPair_of_not_mem)) _ _
  · change execDxr r1 r2 s = _
    rw [execDxr, hcpu, State.require_true]
    exact s.require_of_false (and_eq_false_of (h.imp isFprPair_of_not_mem isFprPair_of_not_mem)) _ _
  · exact ⟨s.require_of_false (and_eq_false_of (.inl (isFprPair_of_not_mem h))) _ _,
      s.require_of_false (isFprPair_of_not_mem h) _ _⟩
  · exact s.require_of_false (and_eq_false_of (.inr (isFprPair_of_not_mem h))) _ _
  · exact ⟨s.require_of_false (lengthsOk_eq_false h) _ _, s.require_of_false (lengthsOk_eq_false h) _ _⟩
  · simp only [List.forall_mem_cons, List.not_mem_nil, false_imp_iff, implies_true, and_true]
    and_intros <;> exact s.require_of_false h _ _
  · simp only [List.forall_mem_cons, List.not_mem_nil, false_imp_iff, implies_true, and_true]
    and_intros <;> exact s.require_of_false h _ _

end Sys2Proof.Machine
end

section
/-! Fields that are stored byte by byte, each before the next is read: the rule for such a run of stores, and O37, O38 and O39. -/

namespace Sys2Proof.Machine

/-! ## Runs of stores into one operand -/

/-- States of which each differs from the one before by the next byte stored in an operand: store k puts v k at byte idx k. -/
def Fills (p : Loc) (u : Nat → State) (idx : Nat → Nat) (v : Nat → Byte) (n : Nat) : Prop :=
  ∀ k < n, u (k + 1) = (u k).setByte p (idx k) (v k)

section Fills

variable {p : Loc} {u : Nat → State} {idx : Nat → Nat} {v : Nat → Byte} {n : Nat}

theorem Fills.onlyMem (h : Fills p u idx v n) {k : Nat} (hk : k ≤ n) : (u 0).OnlyMem (u k) := by
  induction k with
  | zero => exact .refl
  | succ k ih =>
    rw [h k hk]
    exact (ih (by omega)).setByte _ _ _

theorem Fills.sameOutside (h : Fills p u idx v n) {l : Nat} (hidx : ∀ k < n, idx k < l) {k : Nat} (hk : k ≤ n) :
    (u 0).SameOutside (u k) p l := by
  induction k with
  | zero => exact State.SameOutside.refl _ _ _
  | succ k ih =>
    rw [h k hk]
    exact (ih (by omega)).setByte (hidx k hk) _

/-- A byte that none of the stores so far has met. -/
theorem Fills.byteAt_before (h : Fills p u idx v n) {k j : Nat} {q : Loc} (hk : k ≤ n) (hq : ∀ i < k, p.key (idx i) ≠ q.key j) :
    (u k).byteAt q j = (u 0).byteAt q j := by
  induction k with
  | zero => rfl
  | succ k ih =>
    rw [h k hk, State.setByte_byteAt, if_neg fun he => hq k k.lt_succ_self he.1.symm]
    exact ih (by omega) fun i hi => hq i (by omega)

/-- A byte that a store has met holds what that store put there, since each byte is stored once. -/
theorem Fills.byteAt_after (h : Fills p u idx v n) (hs : p.space ≠ none)
    (hinj : ∀ i < n, ∀ j < n, p.key (idx i) = p.key (idx j) → i = j) {k i j : Nat} {q : Loc} (hk : k ≤ n) (hi : i < k)
    (hq : p.key (idx i) = q.key j) : (u k).byteAt q j = v i := by
  induction k with
  | zero => omega
  | succ k ih =>
    rw [h k hk, State.setByte_byteAt]
    obtain hlt | rfl := Nat.lt_succ_iff_lt_or_eq.1 hi
    · have hne : q.key j ≠ p.key (idx k) := fun he => by
        have := hinj i (by omega) k hk (hq.trans he)
        omega
      rw [if_neg fun he => hne he.1]
      exact ih (by omega) hlt
    · rw [if_pos ⟨hq.symm, Loc.key_ne_none _ hs⟩]

end Fills

/-- Bytes that are stored at different places of an operand have different keys. -/
theorem Loc.key_idx_inj {p : Loc} (hs : p.space ≠ none) {idx : Nat → Nat} {n l : Nat} (hl : l ≤ 16777216)
    (hidx : ∀ k < n, idx k < l) (hinj : ∀ i < n, ∀ j < n, idx i = idx j → i = j) :
    ∀ i < n, ∀ j < n, p.key (idx i) = p.key (idx j) → i = j := fun i hi j hj h =>
  hinj i hi j hj ((Loc.key_inj hs ((hidx i hi).trans_le hl) ((hidx j hj).trans_le hl)).1 h)

/-! ## Moves and connectives -/

theorem State.requireBoth_ok {s : State} {k : Access} {l1 l2 : Loc} {n1 n2 : Nat} (h1 : s.allows k l1 n1 = true)
    (h2 : s.allows .read l2 n2 = true) (r : Result) : s.requireBoth k l1 n1 l2 n2 r = r := by
  rw [State.requireBoth, h1, h2, State.require_true, State.require_true]

/-- Byte by byte from left to right: what each byte becomes, and what stays. -/
theorem State.combine_spec (s : State) (f : Byte → Byte → Byte) {p : Loc} (q : Loc) {l : Nat} (hs : p.space ≠ none)
    (hl : l ≤ 16777216) :
    (∀ i < l, ∃ y, (s.combine f p q l).byteAt p i = f (s.byteAt p i) y ∧ ((∀ j < i, p.key j ≠ q.key i) → y = s.byteAt q i) ∧
      ∀ j < i, p.key j = q.key i → y = (s.combine f p q l).byteAt p j) ∧
    s.SameOutside (s.combine f p q l) p l ∧ s.OnlyMem (s.combine f p q l) := by
  have hfill : Fills p (s.combine f p q) id
      (fun k => f ((s.combine f p q k).byteAt p k) ((s.combine f p q k).byteAt q k)) l := fun _ _ => rfl
  have hinj := Loc.key_idx_inj hs hl (idx := id) (n := l) (fun _ h => h) fun _ _ _ _ h => h
  refine ⟨fun i hi => ⟨(s.combine f p q i).byteAt q i, ?_, fun hq => hfill.byteAt_before hi.le hq, fun j hj hq => ?_⟩,
    hfill.sameOutside (fun _ h => h) le_rfl, hfill.onlyMem le_rfl⟩
  · have hold : (s.combine f p q i).byteAt p i = s.byteAt p i :=
      hfill.byteAt_before hi.le fun j hj he => hj.ne (hinj j (by omega) i hi he)
    rw [← hold]
    exact hfill.byteAt_after hs hinj le_rfl hi rfl
  · exact (hfill.byteAt_after hs hinj hi.le hj hq).trans (hfill.byteAt_after hs hinj le_rfl (hj.trans hi) rfl).symm

theorem State.ccNonzero_value (s : State) (l : Loc) (n : Nat) :
    ccNonzero (s.value l n != 0) = if ∀ i < n, s.byteAt l i = 0 then 0 else 1 := by
  rw [ccNonzero]
  simp only [bne_iff_ne, ne_eq, s.value_eq_zero_iff, ite_not]

/-- Settles O37: each of the six is one run over the operand with its function. -/
theorem movesAndConnectivesByteByByte : Obligations.MovesAndConnectivesByteByByte := by
  intro s l b1 d1 b2 d2 p q hl0 hl hp hq haq c hc ha
  have hs : p.space ≠ none := State.space_of_allows ha hl0
  obtain ⟨hbytes, hout, honly⟩ := s.combine_spec c.2.2.2 q hs (hl.trans (by decide))
  have hccs : (s.combine c.2.2.2 p q l).cc = s.cc := by rw [show s.combine c.2.2.2 p q l = _ from honly]
  have meaning : ∃ cc, exec c.1 s = ((s.combine c.2.2.2 p q l).setCc cc).finish 6 ∧
      cc = if c.2.2.1 then (if ∀ i < l, (s.combine c.2.2.2 p q l).byteAt p i = 0 then 0 else 1) else s.cc := by
    subst hp hq
    simp only [List.mem_cons, List.not_mem_nil, or_false] at hc
    obtain rfl | rfl | rfl | rfl | rfl | rfl := hc
    · exact ⟨_, State.requireBoth_ok ha haq _, hccs⟩
    · exact ⟨_, State.requireBoth_ok ha haq _, hccs⟩
    · exact ⟨_, State.requireBoth_ok ha haq _, hccs⟩
    · exact ⟨_, State.requireBoth_ok ha haq _, State.ccNonzero_value _ _ _⟩
    · exact ⟨_, State.requireBoth_ok ha haq _, State.ccNonzero_value _ _ _⟩
    · exact ⟨_, State.requireBoth_ok ha haq _, State.ccNonzero_value _ _ _⟩
  obtain ⟨cc, hexec, hcc⟩ := meaning
  exact ⟨_, hexec, hbytes, hcc, hout, honly.setCc_advance cc 6⟩

/-! ## Compares and tests -/

/-- Equal pairs are passed over. -/
theorem State.compareBytes_skip {s : State} {p q : Loc} (m : Nat) {i k : Nat}
    (h : ∀ j, i ≤ j → j < i + k → s.byteAllowed .read p j = true ∧ s.byteAllowed .read q j = true ∧ s.byteAt p j = s.byteAt q j) :
    s.compareBytes p q i (k + m) = s.compareBytes p q (i + k) m := by
  induction k generalizing i with
  | zero => rw [Nat.zero_add, Nat.add_zero]
  | succ k ih =>
    obtain ⟨hp, hq, heq⟩ := h i le_rfl (by omega)
    rw [show k + 1 + m = (k + m) + 1 by omega, State.compareBytes, hp, hq, Bool.and_self, if_pos rfl, if_pos heq,
      ih fun j h1 h2 => h j (by omega) (by omega), show i + 1 + k = i + (k + 1) by omega]

theorem State.translateTest_skip {s : State} {p q : Loc} (m : Nat) {i k : Nat}
    (h : ∀ j, i ≤ j → j < i + k → s.byteAllowed .read p j = true ∧ s.byteAllowed .read q (s.byteAt p j).toNat = true ∧
      s.byteAt q (s.byteAt p j).toNat = 0) :
    s.translateTest p q i (k + m) = s.translateTest p q (i + k) m := by
  induction k generalizing i with
  | zero => rw [Nat.zero_add, Nat.add_zero]
  | succ k ih =>
    obtain ⟨hp, hq, heq⟩ := h i le_rfl (by omega)
    rw [show k + 1 + m = (k + m) + 1 by omega, State.translateTest, hp, hq, Bool.and_self, if_pos rfl, if_pos heq,
      ih fun j h1 h2 => h j (by omega) (by omega), show i + 1 + k = i + (k + 1) by omega]

theorem State.compareBytes_succ {s : State} {p q : Loc} {i : Nat} (k : Nat) (hp : s.byteAllowed .read p i = true)
    (hq : s.byteAllowed .read q i = true) (hne : s.byteAt p i ≠ s.byteAt q i) :
    s.compareBytes p q i (k + 1) = .ok (ccCompare (s.byteAt p i).toNat (s.byteAt q i).toNat) := by
  rw [State.compareBytes, hp, hq, Bool.and_self, if_pos rfl, if_neg hne]

theorem State.compareBytes_stop {s : State} {p q : Loc} {i : Nat} (k : Nat)
    (h : s.byteAllowed .read p i = false ∨ s.byteAllowed .read q i = false) :
    s.compareBytes p q i (k + 1) = .error .addressTranslation := by
  rw [State.compareBytes, and_eq_false_of h]
  rfl

theorem State.translateTest_succ {s : State} {p q : Loc} {i : Nat} (k : Nat) (hp : s.byteAllowed .read p i = true)
    (hq : s.byteAllowed .read q (s.byteAt p i).toNat = true) (hne : s.byteAt q (s.byteAt p i).toNat ≠ 0) :
    s.translateTest p q i (k + 1) = .ok (some (i, s.byteAt q (s.byteAt p i).toNat)) := by
  rw [State.translateTest, hp, hq, Bool.and_self, if_pos rfl, if_neg hne]

theorem State.translateTest_stop {s : State} {p q : Loc} {i : Nat} (k : Nat)
    (h : s.byteAllowed .read p i = false ∨ s.byteAllowed .read q (s.byteAt p i).toNat = false) :
    s.translateTest p q i (k + 1) = .error .addressTranslation := by
  rw [State.translateTest, and_eq_false_of h]
  rfl

/-- An address put in the low n bits of a word. -/
theorem replaceLow_toNat (w a : Word) {n : Nat} (ha : a.toNat < 2 ^ n) :
    ((w &&& ~~~BitVec.ofNat 32 (2 ^ n - 1)) ||| a).toNat = w.toNat / 2 ^ n * 2 ^ n + a.toNat := by
  have hhigh : w &&& ~~~BitVec.ofNat 32 (2 ^ n - 1) = (w >>> n) <<< n := by
    apply BitVec.eq_of_getLsbD_eq
    intro i hi
    simp only [BitVec.getLsbD_and, BitVec.getLsbD_not, BitVec.getLsbD_ofNat, BitVec.getLsbD_shiftLeft, BitVec.getLsbD_ushiftRight,
      Nat.testBit_two_pow_sub_one, hi, decide_true, Bool.true_and]
    by_cases hin : i < n
    · simp [hin]
    · simp [hin, show n + (i - n) = i by omega]
  have hnum : ((w >>> n) <<< n).toNat = (w.toNat / 2 ^ n) <<< n := by
    rw [BitVec.toNat_shiftLeft, BitVec.toNat_ushiftRight, Nat.shiftRight_eq_div_pow, Nat.shiftLeft_eq]
    exact Nat.mod_eq_of_lt ((Nat.div_mul_le_self _ _).trans_lt w.isLt)
  rw [hhigh, BitVec.toNat_or, hnum, ← Nat.shiftLeft_add_eq_or_of_lt ha, Nat.shiftLeft_eq]

theorem Loc.at_lt_mode (l : Loc) (i : Nat) : l.at i < if l.amode then 2 ^ 31 else 2 ^ 24 := by
  rw [Loc.at_eq]
  split <;> exact Nat.mod_lt _ (by decide)

/-- GR1 of TRT as a number. -/
theorem State.trtAddress_eq (s : State) {p : Loc} (hp : p.amode = s.amode) (k : Nat) :
    s.trtAddress (trunc s.amode (p.addr + BitVec.ofNat 32 k)) =
      BitVec.ofNat 32 (p.at k + if s.amode then 0 else (s.getGr 1).toNat / 2 ^ 24 * 2 ^ 24) := by
  have hat : (trunc s.amode (p.addr + BitVec.ofNat 32 k)).toNat = p.at k := by rw [Loc.at, hp]
  have hlt := p.at_lt_mode k
  rw [hp] at hlt
  rw [State.trtAddress]
  cases hm : s.amode with
  | true =>
    rw [hm] at hat
    rw [if_pos rfl, if_pos rfl, Nat.add_zero, ← hat, BitVec.ofNat_toNat, BitVec.setWidth_eq]
  | false =>
    rw [hm] at hat
    rw [hm, if_neg Bool.false_ne_true] at hlt
    rw [if_neg Bool.false_ne_true, if_neg Bool.false_ne_true, ← BitVec.toNat_inj, ← hat, Nat.add_comm]
    rw [← hat] at hlt
    refine (replaceLow_toNat _ _ (n := 24) hlt).trans ?_
    rw [BitVec.toNat_ofNat, Nat.mod_eq_of_lt]
    omega

/-- Settles O38: both searches pass over what is equal or zero and end at byte k. -/
theorem comparesAndTestsOfFields : Obligations.ComparesAndTestsOfFields := by
  intro s l k b1 d1 b2 d2 p q hk hp hq
  obtain ⟨m, rfl⟩ : ∃ m, l = k + m := ⟨l - k, by omega⟩
  subst hp hq
  refine ⟨fun h => ?_, fun h => ?_⟩
  · have hclc : exec (.clc (k + m) b1 d1 b2 d2) s =
        s.withOperand (s.compareBytes (s.opB b1 d1) (s.opB b2 d2) k m) fun c => s.ccResult c 6 := by
      have := State.compareBytes_skip (s := s) m (i := 0) (k := k) fun j _ hj => h j (by omega)
      rw [Nat.zero_add] at this
      rw [← this]
      rfl
    refine ⟨fun he => ?_, fun hlt h1 h2 => ⟨fun hcmp => ?_, fun hcmp => ?_⟩, fun hlt hno => ?_⟩
    · obtain rfl : m = 0 := by omega
      rw [hclc]
      rfl
    · obtain ⟨n, rfl⟩ : ∃ n, m = n + 1 := ⟨m - 1, by omega⟩
      rw [hclc, State.compareBytes_succ n h1 h2 fun he => by rw [he] at hcmp; omega, State.withOperand_ok, ccCompare,
        if_neg (by omega), if_pos (by omega)]
      rfl
    · obtain ⟨n, rfl⟩ : ∃ n, m = n + 1 := ⟨m - 1, by omega⟩
      rw [hclc, State.compareBytes_succ n h1 h2 fun he => by rw [he] at hcmp; omega, State.withOperand_ok, ccCompare,
        if_neg (by omega), if_neg (by omega)]
      rfl
    · obtain ⟨n, rfl⟩ : ∃ n, m = n + 1 := ⟨m - 1, by omega⟩
      rw [hclc, State.compareBytes_stop n hno, State.withOperand_error]
  · have hskip := State.translateTest_skip (s := s) m (i := 0) (k := k) fun j _ hj => h j (by omega)
    rw [Nat.zero_add] at hskip
    refine ⟨fun he => ?_, fun hlt h1 h2 hne => ?_, fun hlt hno => ?_⟩
    · obtain rfl : m = 0 := by omega
      exact State.withOperand_of_ok hskip _
    · obtain ⟨n, rfl⟩ : ∃ n, m = n + 1 := ⟨m - 1, by omega⟩
      refine (State.withOperand_of_ok (hskip.trans (State.translateTest_succ n h1 h2 hne)) _).trans ?_
      rw [← setByteOf_three, ← s.trtAddress_eq (p := s.opB b1 d1) rfl]
      rfl
    · obtain ⟨n, rfl⟩ : ∃ n, m = n + 1 := ⟨m - 1, by omega⟩
      exact State.withOperand_of_error (hskip.trans (State.translateTest_stop n hno)) _

/-! ## Translate -/

/-- The states of TR where every table byte can be read. -/
def State.translated (s : State) (p q : Loc) (n : Nat) : State :=
  match n with
  | 0 => s
  | k + 1 => (s.translated p q k).setByte p k ((s.translated p q k).byteAt q ((s.translated p q k).byteAt p k).toNat)

theorem State.translated_fills (s : State) (p q : Loc) (n : Nat) : Fills p (s.translated p q) id
    (fun k => (s.translated p q k).byteAt q ((s.translated p q k).byteAt p k).toNat) n := fun _ _ => rfl

/-- A byte of operand 1 is not changed before its turn. -/
theorem State.translated_byteAt (s : State) {p : Loc} (q : Loc) {k : Nat} (hs : p.space ≠ none) (hk : k < 16777216) :
    (s.translated p q k).byteAt p k = s.byteAt p k :=
  (s.translated_fills p q k).byteAt_before le_rfl fun _ hi he =>
    hi.ne ((Loc.key_inj hs (hi.trans hk) hk).1 he)

theorem State.translated_byteAllowed (s : State) (p q : Loc) (k : Nat) (a : Access) (l : Loc) (i : Nat) :
    (s.translated p q k).byteAllowed a l i = s.byteAllowed a l i := by
  rw [show s.translated p q k = _ from (s.translated_fills p q k).onlyMem le_rfl]
  exact State.byteAllowed_congr rfl rfl a l i

/-- Translation goes on from the state that the bytes before have left. -/
theorem State.translate_skip {s : State} {p q : Loc} {i k : Nat} (m : Nat) (hs : p.space ≠ none) (hik : i + k ≤ 16777216)
    (h : ∀ j, i ≤ j → j < i + k → s.byteAllowed .read q (s.byteAt p j).toNat = true) :
    (s.translated p q i).translate p q i (k + m) = (s.translated p q (i + k)).translate p q (i + k) m := by
  induction k generalizing i with
  | zero => rw [Nat.zero_add, Nat.add_zero]
  | succ k ih =>
    have hread : (s.translated p q i).byteAllowed .read q ((s.translated p q i).byteAt p i).toNat = true := by
      rw [s.translated_byteAllowed, s.translated_byteAt q hs (by omega)]
      exact h i le_rfl (by omega)
    rw [show k + 1 + m = (k + m) + 1 by omega, State.translate, if_pos hread, ← State.translated,
      ih (by omega) fun j h1 h2 => h j (by omega) (by omega), show i + 1 + k = i + (k + 1) by omega]

/-- Settles O39: TR is a run of stores whose bytes are looked up as they are needed. -/
theorem translateLooksUpEveryByte : Obligations.TranslateLooksUpEveryByte := by
  intro s l b1 d1 b2 d2 p q hl0 hl hp hq ha h
  have hs : p.space ≠ none := State.space_of_allows ha hl0
  have hexec : exec (.tr l b1 d1 b2 d2) s = (s.translated p q l).finish 6 := by
    have hskip := State.translate_skip (s := s) (i := 0) (k := l) 0 hs (by omega) fun j _ hj => h j (by omega)
    rw [Nat.zero_add, Nat.add_zero] at hskip
    subst hp hq
    change execTr l b1 d1 b2 d2 s = _
    rw [execTr, ha, State.require_true]
    exact State.withOperand_of_ok hskip _
  have hfill := s.translated_fills p q l
  have hinj := Loc.key_idx_inj hs (l := l) (by omega) (idx := id) (n := l) (fun _ h => h) fun _ _ _ _ h => h
  have hlook {i : Nat} (hi : i < l) : (s.translated p q l).byteAt p i = (s.translated p q i).byteAt q (s.byteAt p i).toNat := by
    rw [← s.translated_byteAt q hs (k := i) (by omega)]
    exact hfill.byteAt_after hs hinj le_rfl hi rfl
  refine ⟨_, hexec, fun i hi => ⟨fun hq => (hlook hi).trans (hfill.byteAt_before hi.le hq), fun j hj hq => ?_⟩,
    hfill.sameOutside (fun _ h => h) le_rfl, (hfill.onlyMem le_rfl).advance 6⟩
  exact (hlook hi).trans ((hfill.byteAt_after hs hinj hi.le hj hq).trans
    (hfill.byteAt_after hs hinj le_rfl (hj.trans hi) rfl).symm)

end Sys2Proof.Machine
end

section
/-! MVO, PACK and UNPK as one rule: bytes made from right to left of bytes of operand 2 that are read just before. O40. -/

namespace Sys2Proof.Machine

/-! ## A run from right to left -/

/-- Byte m from the right of operand 2, as a run has read it when it has stored k bytes: read before byte stage m is stored; 0 past its
left end. With it the state after k bytes, byte k from the right of operand 1 made by the rule R of the bytes read. -/
def State.rightToLeft (s : State) (p q : Loc) (l1 l2 : Nat) (stage : Nat → Nat) (R : (Nat → Byte) → Nat → Byte) :
    Nat → State × (Nat → Byte)
  | 0 => (s, fun _ => 0)
  | k + 1 =>
    let x := s.rightToLeft p q l1 l2 stage R k
    let y := fun m => if m < l2 ∧ stage m = k then x.1.byteAt q (l2 - 1 - m) else x.2 m
    (x.1.setByte p (l1 - 1 - k) (R y k), y)

section RightToLeft

variable (s : State) (p q : Loc) (l1 l2 : Nat) (stage : Nat → Nat) (R : (Nat → Byte) → Nat → Byte)

/-- What has been read stays as it was read. -/
theorem State.rightToLeft_read {k m : Nat} (hm : stage m < k) :
    (s.rightToLeft p q l1 l2 stage R k).2 m =
      if m < l2 then (s.rightToLeft p q l1 l2 stage R (stage m)).1.byteAt q (l2 - 1 - m) else 0 := by
  have hpast (k m : Nat) (hm : ¬ m < l2) : (s.rightToLeft p q l1 l2 stage R k).2 m = 0 := by
    induction k with
    | zero => rfl
    | succ k ih => exact (if_neg fun h => hm h.1).trans ih
  by_cases hl : m < l2
  · rw [if_pos hl]
    induction k with
    | zero => omega
    | succ k ih =>
      obtain hlt | heq := Nat.lt_succ_iff_lt_or_eq.1 hm
      · exact (if_neg fun h => by omega).trans (ih hlt)
      · rw [heq]
        exact if_pos ⟨hl, heq⟩
  · rw [if_neg hl]
    exact hpast k m hl

variable {R}

/-- The rule uses only what has been read by then, so it can be stated with all that is read. -/
theorem State.rightToLeft_fills (hR : ∀ y z k, (∀ m, stage m ≤ k → y m = z m) → R y k = R z k) (n : Nat) :
    Fills p (fun k => (s.rightToLeft p q l1 l2 stage R k).1) (fun k => l1 - 1 - k)
      (fun k => R (s.rightToLeft p q l1 l2 stage R n).2 k) n := by
  intro k hk
  refine congrArg (State.setByte _ p (l1 - 1 - k)) (hR _ _ k fun m hm => ?_)
  refine (s.rightToLeft_read p q l1 l2 stage R (k := k + 1) (by omega)).trans ?_
  exact (s.rightToLeft_read p q l1 l2 stage R (by omega)).symm

/-- What a run over the whole operand leaves. -/
theorem State.rightToLeft_spec (hR : ∀ y z k, (∀ m, stage m ≤ k → y m = z m) → R y k = R z k) (hs : p.space ≠ none)
    (hl : l1 ≤ 16777216) {t : State} {y : Nat → Byte} (ht : t = (s.rightToLeft p q l1 l2 stage R l1).1)
    (hy : y = (s.rightToLeft p q l1 l2 stage R l1).2) :
    (∀ k < l1, t.byteAt p (l1 - 1 - k) = R y k) ∧ (∀ m, l2 ≤ m → y m = 0) ∧
      (∀ m < l2, stage m < l1 →
        ((∀ k < stage m, p.key (l1 - 1 - k) ≠ q.key (l2 - 1 - m)) → y m = s.byteAt q (l2 - 1 - m)) ∧
        (∀ k < stage m, p.key (l1 - 1 - k) = q.key (l2 - 1 - m) → y m = t.byteAt p (l1 - 1 - k))) ∧
      s.SameOutside t p l1 ∧ s.OnlyMem t := by
  subst ht hy
  have hfill := s.rightToLeft_fills p q l1 l2 stage hR l1
  have hinj := Loc.key_idx_inj hs hl (idx := fun k => l1 - 1 - k) (n := l1) (fun k hk => by omega) fun i hi j hj h => by omega
  refine ⟨fun k hk => hfill.byteAt_after hs hinj le_rfl hk rfl, fun m hm => ?_, fun m hm hst => ?_,
    hfill.sameOutside (fun k hk => by omega) le_rfl, hfill.onlyMem le_rfl⟩
  · by_cases hst : stage m < l1
    · rw [s.rightToLeft_read p q l1 l2 stage R hst, if_neg (by omega)]
    · have hnever (k : Nat) : (s.rightToLeft p q l1 l2 stage R k).2 m = 0 := by
        induction k with
        | zero => rfl
        | succ k ih => exact (if_neg fun h => by omega).trans ih
      exact hnever l1
  · rw [s.rightToLeft_read p q l1 l2 stage R hst, if_pos hm]
    exact ⟨fun hq => hfill.byteAt_before hst.le hq, fun k hk hq =>
      (hfill.byteAt_after hs hinj hst.le hk hq).trans (hfill.byteAt_after hs hinj le_rfl (hk.trans hst) rfl).symm⟩

end RightToLeft

/-! ## The three rules -/

/-- MVO: byte k from the right, of the bytes of operand 2 and the old last byte. -/
def mvoRule (last : Byte) (y : Nat → Byte) (k : Nat) : Byte :=
  if k = 0 then nibbles (loNibble (y 0)) (loNibble last) else nibbles (loNibble (y k)) (hiNibble (y (k - 1)))

def packRule (y : Nat → Byte) (k : Nat) : Byte :=
  if k = 0 then nibbles (loNibble (y 0)) (hiNibble (y 0)) else nibbles (loNibble (y (2 * k))) (loNibble (y (2 * k - 1)))

def unpackRule (y : Nat → Byte) (k : Nat) : Byte :=
  if k = 0 then nibbles (loNibble (y 0)) (hiNibble (y 0))
  else nibbles 15 (if k % 2 = 1 then loNibble (y ((k + 1) / 2)) else hiNibble (y (k / 2)))

theorem mvoRule_congr (last : Byte) (y z : Nat → Byte) (k : Nat) (h : ∀ m, m ≤ k → y m = z m) :
    mvoRule last y k = mvoRule last z k := by
  rw [mvoRule, mvoRule, h 0 (by omega), h k le_rfl, h (k - 1) (by omega)]

theorem packRule_congr (y z : Nat → Byte) (k : Nat) (h : ∀ m, (m + 1) / 2 ≤ k → y m = z m) : packRule y k = packRule z k := by
  rw [packRule, packRule, h 0 (by omega), h (2 * k) (by omega)]
  by_cases hk : k = 0
  · rw [if_pos hk, if_pos hk]
  · rw [if_neg hk, if_neg hk, h (2 * k - 1) (by omega)]

theorem unpackRule_congr (y z : Nat → Byte) (k : Nat) (h : ∀ m, 2 * m - 1 ≤ k → y m = z m) :
    unpackRule y k = unpackRule z k := by
  rw [unpackRule, unpackRule, h 0 (by omega), h (k / 2) (by omega)]
  by_cases hk : k % 2 = 1
  · rw [if_pos hk, if_pos hk, h ((k + 1) / 2) (by omega)]
  · rw [if_neg hk, if_neg hk]

section Runs

variable (s : State) (p q : Loc) (l1 l2 : Nat)

/-- The run of MVO. -/
def State.mvoRun (last : Byte) : Nat → State × (Nat → Byte) := s.rightToLeft p q l1 l2 (fun m => m) (mvoRule last)

/-- The run of PACK. -/
def State.packRun : Nat → State × (Nat → Byte) := s.rightToLeft p q l1 l2 (fun m => (m + 1) / 2) packRule

/-- The run of UNPK. -/
def State.unpackRun : Nat → State × (Nat → Byte) := s.rightToLeft p q l1 l2 (fun m => 2 * m - 1) unpackRule

variable {s p q l1 l2}

theorem State.mvoRun_succ {last : Byte} {k i : Nat} (hi : i = l1 - 1 - k) : (s.mvoRun p q l1 l2 last (k + 1)).1 =
    (s.mvoRun p q l1 l2 last k).1.setByte p i (mvoRule last (s.mvoRun p q l1 l2 last (k + 1)).2 k) := by
  rw [hi]
  rfl

theorem State.packRun_succ {k i : Nat} (hi : i = l1 - 1 - k) : (s.packRun p q l1 l2 (k + 1)).1 =
    (s.packRun p q l1 l2 k).1.setByte p i (packRule (s.packRun p q l1 l2 (k + 1)).2 k) := by
  rw [hi]
  rfl

theorem State.unpackRun_succ {k i : Nat} (hi : i = l1 - 1 - k) : (s.unpackRun p q l1 l2 (k + 1)).1 =
    (s.unpackRun p q l1 l2 k).1.setByte p i (unpackRule (s.unpackRun p q l1 l2 (k + 1)).2 k) := by
  rw [hi]
  rfl

theorem State.mvoRun_read (s : State) (p q : Loc) (l1 l2 : Nat) (last : Byte) {k m : Nat} (h : m < k) :
    (s.mvoRun p q l1 l2 last k).2 m = if m < l2 then (s.mvoRun p q l1 l2 last m).1.byteAt q (l2 - 1 - m) else 0 :=
  s.rightToLeft_read p q l1 l2 (fun m => m) (mvoRule last) h

theorem State.packRun_read (s : State) (p q : Loc) (l1 l2 : Nat) {k m j : Nat} (hj : (m + 1) / 2 = j) (h : j < k) :
    (s.packRun p q l1 l2 k).2 m = if m < l2 then (s.packRun p q l1 l2 j).1.byteAt q (l2 - 1 - m) else 0 := by
  subst hj
  exact s.rightToLeft_read p q l1 l2 (fun m => (m + 1) / 2) packRule h

theorem State.unpackRun_read (s : State) (p q : Loc) (l1 l2 : Nat) {k m j : Nat} (hj : 2 * m - 1 = j) (h : j < k) :
    (s.unpackRun p q l1 l2 k).2 m = if m < l2 then (s.unpackRun p q l1 l2 j).1.byteAt q (l2 - 1 - m) else 0 := by
  subst hj
  exact s.rightToLeft_read p q l1 l2 (fun m => 2 * m - 1) unpackRule h

/-- MVO after k bytes goes on as the rule says. -/
theorem State.moveOffset_mvoRun (last : Byte) {i k : Nat} (hik : i + k = l1) (hk : 0 < k) :
    (s.mvoRun p q l1 l2 last k).1.moveOffset p q i (l2 - k) (hiNibble ((s.mvoRun p q l1 l2 last k).2 (k - 1))) =
      (s.mvoRun p q l1 l2 last l1).1 := by
  induction i generalizing k with
  | zero => rw [State.moveOffset, ← hik, Nat.zero_add]
  | succ i ih =>
    have hcarry : (s.mvoRun p q l1 l2 last (k + 1)).2 (k - 1) = (s.mvoRun p q l1 l2 last k).2 (k - 1) :=
      if_neg fun h => absurd (h.2 : k - 1 = k) (by omega)
    rw [← ih (k := k + 1) (by omega) (by omega), State.mvoRun_succ (i := i) (by omega), mvoRule, if_neg hk.ne', hcarry,
      Nat.add_sub_cancel, s.mvoRun_read p q l1 l2 last k.lt_succ_self]
    by_cases hl : k < l2
    · obtain ⟨j, hj⟩ : ∃ j, l2 - k = j + 1 := ⟨l2 - k - 1, by omega⟩
      rw [if_pos hl, hj, State.moveOffset, show l2 - 1 - k = j by omega, show l2 - (k + 1) = j by omega]
    · rw [if_neg hl, show l2 - k = 0 by omega, State.moveOffset, show l2 - (k + 1) = 0 by omega]
      rfl

/-- A digit of PACK by the byte m from the right of operand 2. -/
theorem State.packDigit_eq {t : State} {m j : Nat} (hj : j = l2 - m) :
    t.packDigit q j = loNibble (if m < l2 then t.byteAt q (l2 - 1 - m) else 0) := by
  rw [State.packDigit]
  by_cases hm : m < l2
  · rw [if_neg (by omega), if_pos hm, show j - 1 = l2 - 1 - m by omega]
  · rw [if_pos (by omega), if_neg hm]
    rfl

theorem State.pack_packRun {i k : Nat} (hik : i + k = l1) (hk : 0 < k) :
    (s.packRun p q l1 l2 k).1.pack p q i (l2 - (2 * k - 1)) = (s.packRun p q l1 l2 l1).1 := by
  induction i generalizing k with
  | zero => rw [State.pack, ← hik, Nat.zero_add]
  | succ i ih =>
    rw [← ih (k := k + 1) (by omega) (by omega), State.packRun_succ (i := i) (by omega), packRule, if_neg hk.ne',
      s.packRun_read p q l1 l2 (j := k) (by omega) k.lt_succ_self, s.packRun_read p q l1 l2 (j := k) (by omega) k.lt_succ_self,
      State.pack, State.packDigit_eq (l2 := l2) (m := 2 * k) (by omega),
      State.packDigit_eq (l2 := l2) (m := 2 * k - 1) rfl,
      show l2 - (2 * k - 1) - 2 = l2 - (2 * (k + 1) - 1) by omega]

/-- Where UNPK stands after k bytes: how many bytes of operand 2 are left, and which left half-byte is pending. -/
def unpackPending (l2 : Nat) (y : Nat → Byte) (k : Nat) : Option Nibble :=
  if k % 2 = 0 ∧ k / 2 < l2 then some (hiNibble (y (k / 2))) else none

theorem State.unpack_unpackRun {i k : Nat} (hik : i + k = l1) (hk : 0 < k) :
    (s.unpackRun p q l1 l2 k).1.unpack p q i (l2 - (k / 2 + 1)) (unpackPending l2 (s.unpackRun p q l1 l2 k).2 k) =
      (s.unpackRun p q l1 l2 l1).1 := by
  induction i generalizing k with
  | zero => rw [State.unpack, ← hik, Nat.zero_add]
  | succ i ih =>
    rw [← ih (k := k + 1) (by omega) (by omega), State.unpackRun_succ (i := i) (by omega), unpackRule, if_neg hk.ne']
    obtain heven | hodd := Nat.mod_two_eq_zero_or_one k
    · have hread := s.unpackRun_read p q l1 l2 (m := k / 2) (j := k - 1) (by omega) (show k - 1 < k + 1 by omega)
      have hread' := s.unpackRun_read p q l1 l2 (m := k / 2) (j := k - 1) (by omega) (show k - 1 < k by omega)
      have hnone : unpackPending l2 (s.unpackRun p q l1 l2 (k + 1)).2 (k + 1) = none := if_neg (by omega)
      rw [if_neg (by omega), hnone, unpackPending, hread, hread', show (k + 1) / 2 = k / 2 by omega]
      by_cases hl : k / 2 < l2
      · rw [if_pos ⟨heven, hl⟩, if_pos hl, State.unpack]
      · rw [if_neg fun h => hl h.2, if_neg hl, show l2 - (k / 2 + 1) = 0 by omega, State.unpack]
        rfl
    · have hread := s.unpackRun_read p q l1 l2 (m := (k + 1) / 2) (j := k) (by omega) k.lt_succ_self
      rw [if_pos hodd, unpackPending, if_neg (by omega), unpackPending, hread]
      by_cases hl : (k + 1) / 2 < l2
      · obtain ⟨j, hj⟩ : ∃ j, l2 - (k / 2 + 1) = j + 1 := ⟨l2 - (k / 2 + 1) - 1, by omega⟩
        rw [if_pos hl, hj, State.unpack, if_pos ⟨by omega, hl⟩, show l2 - 1 - (k + 1) / 2 = j by omega,
          show l2 - ((k + 1) / 2 + 1) = j by omega]
      · rw [if_neg hl, show l2 - (k / 2 + 1) = 0 by omega, State.unpack, if_neg fun h => hl h.2,
          show l2 - ((k + 1) / 2 + 1) = 0 by omega]
        rfl

end Runs

/-! ## The instructions -/

section Exec

variable {s : State} {l1 l2 : Nat} {b1 b2 : Reg} {d1 d2 : Disp}

theorem exec_mvo (h1 : 1 ≤ l1) (h2 : 1 ≤ l2) (ha : s.allows .update (s.opB b1 d1) l1 = true)
    (hr : s.allows .read (s.opB b2 d2) l2 = true) : exec (.mvo l1 l2 b1 d1 b2 d2) s =
      (s.mvoRun (s.opB b1 d1) (s.opB b2 d2) l1 l2 (s.byteAt (s.opB b1 d1) (l1 - 1)) l1).1.finish 6 := by
  have hread := s.mvoRun_read (s.opB b1 d1) (s.opB b2 d2) l1 l2 (s.byteAt (s.opB b1 d1) (l1 - 1)) Nat.one_pos
  rw [if_pos (show 0 < l2 from h2)] at hread
  rw [← State.moveOffset_mvoRun (i := l1 - 1) (k := 1) _ (by omega) Nat.one_pos, hread,
    State.mvoRun_succ (i := l1 - 1) rfl, mvoRule, if_pos rfl, hread]
  exact State.requireBoth_ok ha hr _

theorem exec_pack (h1 : 1 ≤ l1) (h2 : 1 ≤ l2) (ha : s.allows .write (s.opB b1 d1) l1 = true)
    (hr : s.allows .read (s.opB b2 d2) l2 = true) : exec (.pack l1 l2 b1 d1 b2 d2) s =
      (s.packRun (s.opB b1 d1) (s.opB b2 d2) l1 l2 l1).1.finish 6 := by
  have hread := s.packRun_read (s.opB b1 d1) (s.opB b2 d2) l1 l2 (m := 0) rfl Nat.one_pos
  rw [if_pos (show 0 < l2 from h2)] at hread
  rw [← State.pack_packRun (i := l1 - 1) (k := 1) (by omega) Nat.one_pos, State.packRun_succ (i := l1 - 1) rfl, packRule,
    if_pos rfl, hread]
  exact State.requireBoth_ok ha hr _

theorem exec_unpk (h1 : 1 ≤ l1) (h2 : 1 ≤ l2) (ha : s.allows .write (s.opB b1 d1) l1 = true)
    (hr : s.allows .read (s.opB b2 d2) l2 = true) : exec (.unpk l1 l2 b1 d1 b2 d2) s =
      (s.unpackRun (s.opB b1 d1) (s.opB b2 d2) l1 l2 l1).1.finish 6 := by
  have hread := s.unpackRun_read (s.opB b1 d1) (s.opB b2 d2) l1 l2 (m := 0) rfl Nat.one_pos
  rw [if_pos (show 0 < l2 from h2)] at hread
  rw [← State.unpack_unpackRun (i := l1 - 1) (k := 1) (by omega) Nat.one_pos, State.unpackRun_succ (i := l1 - 1) rfl,
    unpackRule, if_pos rfl, hread]
  exact State.requireBoth_ok ha hr _

end Exec

/-! ## Half-bytes of numbers -/

theorem nibbles_toNat (a b : Nibble) : (nibbles a b).toNat = a.toNat * 16 + b.toNat := toNat_append_eq_add a b

theorem loNibble_toNat (b : Byte) : (loNibble b).toNat = b.toNat % 16 := by
  rw [loNibble, extractLsb'_toNat_eq_mod, pow_zero, Nat.div_one]
  rfl

theorem hiNibble_toNat (b : Byte) : (hiNibble b).toNat = b.toNat / 16 := by
  rw [hiNibble, extractLsb'_toNat_eq_mod]
  omega

theorem eq_of_digits_eq {n a b : Nat} (ha : a < 256 ^ n) (hb : b < 256 ^ n)
    (h : ∀ k < n, a / 256 ^ k % 256 = b / 256 ^ k % 256) : a = b := by
  induction n generalizing a b with
  | zero => omega
  | succ n ih =>
    have hlow := h 0 (by omega)
    have hhigh : a / 256 = b / 256 := ih (by omega) (by omega) fun k hk => by
      rw [Nat.div_div_eq_div_mul, Nat.div_div_eq_div_mul, ← pow_succ']
      exact h (k + 1) (by omega)
    rw [pow_zero, Nat.div_one, Nat.div_one] at hlow
    omega

/-- Byte m from the right of a field, 0 to its left. -/
def State.byteRight (s : State) (q : Loc) (n m : Nat) : Byte := if m < n then s.byteAt q (n - 1 - m) else 0

theorem State.value_byteRight (s : State) (q : Loc) (n m : Nat) : s.value q n / 256 ^ m % 256 = (s.byteRight q n m).toNat := by
  rw [State.byteRight]
  by_cases hm : m < n
  · rw [if_pos hm, ← s.value_digit q (show n - 1 - m < n by omega), show n - 1 - (n - 1 - m) = m by omega]
  · rw [if_neg hm, Nat.div_eq_of_lt ((s.value_lt q n).trans_le (Nat.pow_le_pow_right (by decide) (by omega)))]
    rfl

/-- The half-bytes of a number by its bytes. -/
theorem div_pow_sixteen_even (v m : Nat) : v / 16 ^ (2 * m) % 16 = v / 256 ^ m % 256 % 16 := by
  rw [pow_mul, show 16 ^ 2 = 256 from rfl]
  omega

theorem div_pow_sixteen_odd (v m : Nat) : v / 16 ^ (2 * m + 1) % 16 = v / 256 ^ m % 256 / 16 := by
  rw [pow_succ, pow_mul, ← Nat.div_div_eq_div_mul, show 16 ^ 2 = 256 from rfl]
  omega

/-- Where the operands share no byte, a run from right to left reads operand 2 as it was. -/
theorem State.rightToLeft_apart {s t : State} {p q : Loc} {l1 l2 : Nat} {stage : Nat → Nat} {R : (Nat → Byte) → Nat → Byte}
    {y : Nat → Byte} (hR : ∀ y z k, (∀ m, stage m ≤ k → y m = z m) → R y k = R z k)
    (hapart : ∀ i < l1, ∀ j < l2, p.key i ≠ q.key j) (hbytes : ∀ k < l1, t.byteAt p (l1 - 1 - k) = R y k)
    (hpast : ∀ m, l2 ≤ m → y m = 0)
    (hread : ∀ m < l2, stage m < l1 → (∀ k < stage m, p.key (l1 - 1 - k) ≠ q.key (l2 - 1 - m)) → y m = s.byteAt q (l2 - 1 - m))
    {k : Nat} (hk : k < l1) : t.value p l1 / 256 ^ k % 256 = (R (s.byteRight q l2) k).toNat := by
  have hy (m : Nat) (hm : stage m ≤ k) : y m = s.byteRight q l2 m := by
    rw [State.byteRight]
    by_cases hl : m < l2
    · rw [if_pos hl]
      exact hread m hl (by omega) fun j hj => hapart _ (by omega) _ (by omega)
    · rw [if_neg hl]
      exact hpast m (by omega)
  rw [t.value_byteRight, State.byteRight, if_pos hk, hbytes k hk, hR _ _ k hy]

theorem State.advance_value (s : State) (len : Nat) (l : Loc) (n : Nat) : (s.advance len).value l n = s.value l n :=
  State.value_congr_mem (s := s) (t := s.advance len) rfl l n

theorem mod_pow_div_mod (x : Nat) {k n : Nat} (hk : k < n) : x % 256 ^ n / 256 ^ k % 256 = x / 256 ^ k % 256 := by
  obtain ⟨m, rfl⟩ : ∃ m, n = k + (m + 1) := ⟨n - k - 1, by omega⟩
  rw [pow_add, Nat.mod_mul_right_div_self, pow_succ', Nat.mod_mul_right_mod]

/-- The bytes of a number moved to the left by a half-byte, with another half-byte at its right end: the rule of MVO. -/
theorem mvoRule_digit (s : State) (q : Loc) (l2 : Nat) (last : Byte) (k : Nat) :
    (mvoRule last (s.byteRight q l2) k).toNat = (s.value q l2 * 16 + last.toNat % 16) / 256 ^ k % 256 := by
  cases k with
  | zero =>
    have h0 := s.value_byteRight q l2 0
    rw [pow_zero, Nat.div_one] at h0
    rw [mvoRule, if_pos rfl, nibbles_toNat, loNibble_toNat, loNibble_toNat, ← h0, pow_zero, Nat.div_one]
    omega
  | succ k =>
    have hlow := s.value_byteRight q l2 k
    have hhigh := s.value_byteRight q l2 (k + 1)
    rw [pow_succ, ← Nat.div_div_eq_div_mul] at hhigh
    have hshift : (s.value q l2 * 16 + last.toNat % 16) / 256 ^ (k + 1) = s.value q l2 / 256 ^ k / 16 := by
      have hdrop : (s.value q l2 * 16 + last.toNat % 16) / 16 = s.value q l2 := by omega
      rw [Nat.div_div_eq_div_mul, ← hdrop, Nat.div_div_eq_div_mul, hdrop]
      congr 1
      ring
    rw [mvoRule, if_neg k.succ_ne_zero, nibbles_toNat, loNibble_toNat, hiNibble_toNat, Nat.add_sub_cancel, ← hhigh, ← hlow,
      hshift]
    omega

/-- The half-bytes of a byte of PACK. -/
theorem packRule_digit (s : State) (q : Loc) (l2 k : Nat) :
    (packRule (s.byteRight q l2) k).toNat = s.value q l2 / 256 ^ (2 * k) % 16 * 16 +
      if k = 0 then s.value q l2 % 256 / 16 else s.value q l2 / 256 ^ (2 * k - 1) % 16 := by
  rw [packRule]
  split_ifs with hk
  · have h0 := s.value_byteRight q l2 0
    rw [pow_zero, Nat.div_one] at h0
    rw [hk, nibbles_toNat, loNibble_toNat, hiNibble_toNat, ← h0, pow_zero, Nat.div_one]
    omega
  · rw [nibbles_toNat, loNibble_toNat, loNibble_toNat, ← s.value_byteRight q l2, ← s.value_byteRight q l2]
    omega

/-- A byte of UNPK after the last one is a zone and a half-byte of operand 2. -/
theorem unpackRule_digit (s : State) (q : Loc) (l2 : Nat) {k : Nat} (hk : k ≠ 0) :
    (unpackRule (s.byteRight q l2) k).toNat = 0xF0 + s.value q l2 / 16 ^ (k + 1) % 16 := by
  rw [unpackRule, if_neg hk, nibbles_toNat]
  by_cases hodd : k % 2 = 1
  · rw [if_pos hodd, loNibble_toNat, ← s.value_byteRight q l2, show k + 1 = 2 * ((k + 1) / 2) by omega, div_pow_sixteen_even,
      show 2 * ((k + 1) / 2) / 2 = (k + 1) / 2 by omega]
    rfl
  · rw [if_neg hodd, hiNibble_toNat, ← s.value_byteRight q l2, show k + 1 = 2 * (k / 2) + 1 by omega, div_pow_sixteen_odd]
    rfl

/-- Settles O40: each of the three is a run from right to left with its rule. -/
theorem moveOffsetPackAndUnpack : Obligations.MoveOffsetPackAndUnpack := by
  intro s l1 l2 b1 d1 b2 d2 p q h1 h1' h2 h2' hp hq hr
  subst hp hq
  have hspace {k : Access} (ha : s.allows k (s.opB b1 d1) l1 = true) := State.space_of_allows ha h1
  have hmvo (ha : s.allows .update (s.opB b1 d1) l1 = true) :=
    s.rightToLeft_spec (s.opB b1 d1) (s.opB b2 d2) l1 l2 _ (mvoRule_congr (s.byteAt (s.opB b1 d1) (l1 - 1))) (hspace ha) (by omega)
      rfl rfl
  have hpack (ha : s.allows .write (s.opB b1 d1) l1 = true) :=
    s.rightToLeft_spec (s.opB b1 d1) (s.opB b2 d2) l1 l2 _ packRule_congr (hspace ha) (by omega) rfl rfl
  have hunpk (ha : s.allows .write (s.opB b1 d1) l1 = true) :=
    s.rightToLeft_spec (s.opB b1 d1) (s.opB b2 d2) l1 l2 _ unpackRule_congr (hspace ha) (by omega) rfl rfl
  refine ⟨fun c hc ha => ?_, fun hapart => ⟨fun ha => ?_, fun ha => ?_, fun ha => ?_⟩⟩
  · simp only [List.mem_cons, List.not_mem_nil, or_false] at hc
    obtain rfl | rfl | rfl := hc
    · obtain ⟨hbytes, hpast, hread, hout, honly⟩ := hmvo ha
      exact ⟨_, _, exec_mvo h1 h2 ha hr, hbytes, hpast, hread, hout, honly.advance 6⟩
    · obtain ⟨hbytes, hpast, hread, hout, honly⟩ := hpack ha
      exact ⟨_, _, exec_pack h1 h2 ha hr, hbytes, hpast, hread, hout, honly.advance 6⟩
    · obtain ⟨hbytes, hpast, hread, hout, honly⟩ := hunpk ha
      exact ⟨_, _, exec_unpk h1 h2 ha hr, hbytes, hpast, hread, hout, honly.advance 6⟩
  · obtain ⟨hbytes, hpast, hread, -⟩ := hmvo ha
    refine ⟨_, exec_mvo h1 h2 ha hr, ?_⟩
    rw [State.advance_value]
    refine eq_of_digits_eq (State.value_lt _ _ _) (Nat.mod_lt _ (by positivity)) fun k hk => ?_
    have hlast := s.value_digit (s.opB b1 d1) (show l1 - 1 < l1 by omega)
    rw [Nat.sub_self, pow_zero, Nat.div_one] at hlast
    refine (State.rightToLeft_apart (mvoRule_congr _) hapart hbytes hpast (fun m hm hs => (hread m hm hs).1) hk).trans ?_
    rw [mvoRule_digit, mod_pow_div_mod _ hk, ← hlast, Nat.mod_mod_of_dvd _ (by decide)]
  · obtain ⟨hbytes, hpast, hread, -⟩ := hpack ha
    have hT (k : Nat) (hk : k < l1) :
        (s.packRun (s.opB b1 d1) (s.opB b2 d2) l1 l2 l1).1.value (s.opB b1 d1) l1 / 256 ^ k % 256 = _ :=
      (State.rightToLeft_apart packRule_congr hapart hbytes hpast (fun m hm hs => (hread m hm hs).1) hk).trans
        (packRule_digit s (s.opB b2 d2) l2 k)
    refine ⟨_, exec_pack h1 h2 ha hr, ?_, fun k hk1 hk => ?_⟩
    · have h0 := hT 0 h1
      rw [if_pos rfl, pow_zero, Nat.div_one] at h0
      rw [State.advance_value]
      omega
    · rw [State.advance_value]
      obtain ⟨a, rfl | rfl⟩ := k.even_or_odd'
      · rw [div_pow_sixteen_even, hT a (by omega), if_neg (by omega)]
        omega
      · rw [div_pow_sixteen_odd, hT a (by omega), Nat.add_sub_cancel]
        split <;> omega
  · obtain ⟨hbytes, hpast, hread, -⟩ := hunpk ha
    have hT (k : Nat) (hk : k < l1) :
        (s.unpackRun (s.opB b1 d1) (s.opB b2 d2) l1 l2 l1).1.value (s.opB b1 d1) l1 / 256 ^ k % 256 = _ :=
      State.rightToLeft_apart unpackRule_congr hapart hbytes hpast (fun m hm hs => (hread m hm hs).1) hk
    refine ⟨_, exec_unpk h1 h2 ha hr, ?_, fun k hk1 hk => ?_⟩
    · have h0 := hT 0 h1
      have hlast := s.value_byteRight (s.opB b2 d2) l2 0
      rw [pow_zero, Nat.div_one] at hlast
      rw [unpackRule, if_pos rfl, nibbles_toNat, loNibble_toNat, hiNibble_toNat, ← hlast, pow_zero, Nat.div_one] at h0
      rw [State.advance_value, h0, Nat.mod_mod_of_dvd _ (by decide), show (256 : Nat) = 16 * 16 from rfl,
        Nat.mod_mul_right_div_self]
    · rw [State.advance_value]
      exact (hT k hk).trans (unpackRule_digit s _ l2 (by omega))

end Sys2Proof.Machine
end

section
/-! MVCL and CLCL: the progress in the register pairs, the move and the comparison up to any byte. O41 and O42. -/

namespace Sys2Proof.Machine

/-! ## The register pairs -/

theorem lowLength_eq (w : Word) : lowLength w = w.toNat % 2 ^ 24 := by
  rw [lowLength, extractLsb'_toNat_eq_mod, pow_zero, Nat.div_one]

theorem State.longLength_eq (s : State) (r : Reg) : s.longLength r = (s.getGr (r + 1)).toNat % 2 ^ 24 := lowLength_eq _

/-- Bytes taken off the length of a pair. -/
theorem setLowLength_toNat {w : Word} {k : Nat} (hk : k ≤ w.toNat % 2 ^ 24) :
    (setLowLength w (lowLength w - k)).toNat = w.toNat - k := by
  rw [setLowLength, toNat_append_eq_add, extractLsb'_toNat_eq_mod, BitVec.toNat_ofNat, lowLength_eq]
  omega

/-- An address of a register advanced by bytes is that of the byte in its operand. -/
theorem State.trunc_add_eq_at (s : State) (r : Reg) (k : Nat) :
    (trunc s.amode (s.getGr r + BitVec.ofNat 32 k)).toNat = (s.opR r).at k := by
  rw [Loc.at_eq, State.opR, trunc_toNat, trunc_toNat, BitVec.toNat_add, BitVec.toNat_ofNat]
  split <;> omega

theorem evenReg_ne_succ {r q : Reg} (hr : r.getLsbD 0 = false) (hq : q.getLsbD 0 = false) : r ≠ q + 1 := by
  revert r q
  decide

section Progress

variable {s t : State} {r1 r2 : Reg} {k1 k2 : Nat}

/-- The register pairs after k1 and k2 bytes; the two pairs may be one. -/
theorem State.longProgress_spec (h1 : r1.getLsbD 0 = false) (h2 : r2.getLsbD 0 = false) (hsame : r1 = r2 → k1 = k2)
    (hk1 : k1 ≤ s.longLength r1) (hk2 : k2 ≤ s.longLength r2) :
    ((s.longProgress t r1 r2 k1 k2).getGr r1).toNat = (s.opR r1).at k1 ∧
    ((s.longProgress t r1 r2 k1 k2).getGr (r1 + 1)).toNat = (s.getGr (r1 + 1)).toNat - k1 ∧
    ((s.longProgress t r1 r2 k1 k2).getGr r2).toNat = (s.opR r2).at k2 ∧
    ((s.longProgress t r1 r2 k1 k2).getGr (r2 + 1)).toNat = (s.getGr (r2 + 1)).toNat - k2 ∧
    ∀ r, r ≠ r1 → r ≠ r1 + 1 → r ≠ r2 → r ≠ r2 + 1 → (s.longProgress t r1 r2 k1 k2).getGr r = t.getGr r := by
  rw [State.longLength_eq] at hk1 hk2
  have haddr2 : ((s.longProgress t r1 r2 k1 k2).getGr r2).toNat = (s.opR r2).at k2 := by
    rw [State.longProgress, State.setGr_getGr, if_neg (evenReg_ne_succ h2 h2), State.setGr_getGr, if_pos rfl,
      State.trunc_add_eq_at]
  have hlen2 : ((s.longProgress t r1 r2 k1 k2).getGr (r2 + 1)).toNat = (s.getGr (r2 + 1)).toNat - k2 := by
    rw [State.longProgress, State.setGr_getGr, if_pos rfl, State.longLength, setLowLength_toNat hk2]
  refine ⟨?_, ?_, haddr2, hlen2, fun r n1 n1' n2 n2' => ?_⟩
  · by_cases he : r1 = r2
    · obtain rfl := he
      obtain rfl := hsame rfl
      exact haddr2
    · rw [State.longProgress, State.setGr_getGr, if_neg (evenReg_ne_succ h1 h2), State.setGr_getGr, if_neg he, State.setGr_getGr,
        if_neg (evenReg_ne_succ h1 h1), State.setGr_getGr, if_pos rfl, State.trunc_add_eq_at]
  · by_cases he : r1 = r2
    · obtain rfl := he
      obtain rfl := hsame rfl
      exact hlen2
    · rw [State.longProgress, State.setGr_getGr, if_neg fun h => he (add_right_cancel h), State.setGr_getGr,
        if_neg (evenReg_ne_succ h2 h1).symm, State.setGr_getGr, if_pos rfl, State.longLength, setLowLength_toNat hk1]
  · rw [State.longProgress, State.setGr_getGr, if_neg n2', State.setGr_getGr, if_neg n2, State.setGr_getGr, if_neg n1',
      State.setGr_getGr, if_neg n1]

end Progress

/-! ## The move -/

/-- The states of MVCL where every byte can be accessed. -/
def State.moved (s : State) (p q : Loc) (n2 : Nat) (pad : Byte) (n : Nat) : State :=
  match n with
  | 0 => s
  | k + 1 => (s.moved p q n2 pad k).setByte p k (if k < n2 then (s.moved p q n2 pad k).byteAt q k else pad)

section Move

variable (s : State) (p q : Loc) (n2 : Nat) (pad : Byte)

theorem State.moved_fills (n : Nat) : Fills p (s.moved p q n2 pad) id
    (fun k => if k < n2 then (s.moved p q n2 pad k).byteAt q k else pad) n := fun _ _ => rfl

theorem State.moved_onlyMem (n : Nat) : s.OnlyMem (s.moved p q n2 pad n) := (s.moved_fills p q n2 pad n).onlyMem le_rfl

theorem State.moved_sameOutside (n : Nat) : s.SameOutside (s.moved p q n2 pad n) p n :=
  (s.moved_fills p q n2 pad n).sameOutside (fun _ h => h) le_rfl

theorem State.moved_byteAllowed (n : Nat) (a : Access) (l : Loc) (i : Nat) :
    (s.moved p q n2 pad n).byteAllowed a l i = s.byteAllowed a l i := by
  rw [show s.moved p q n2 pad n = _ from s.moved_onlyMem p q n2 pad n]
  exact State.byteAllowed_congr rfl rfl a l i

variable {s p q n2 pad}

/-- What the bytes of operand 1 become where no byte of operand 2 has been stored before it is moved. -/
theorem State.moved_byteAt {n : Nat} (hs : p.space ≠ none) (hn : n ≤ 16777216)
    (hq : ∀ i < n, i < n2 → ∀ j < i, p.key j ≠ q.key i) {i : Nat} (hi : i < n) :
    (s.moved p q n2 pad n).byteAt p i = if i < n2 then s.byteAt q i else pad := by
  have hfill := s.moved_fills p q n2 pad n
  have hinj := Loc.key_idx_inj hs hn (idx := id) (n := n) (fun _ h => h) fun _ _ _ _ h => h
  refine (hfill.byteAt_after hs hinj le_rfl hi rfl).trans ?_
  by_cases hlt : i < n2
  · rw [if_pos hlt, if_pos hlt]
    exact hfill.byteAt_before hi.le (hq i hi hlt)
  · rw [if_neg hlt, if_neg hlt]

/-- The move goes on from the state that the bytes before have left. -/
theorem State.moveLong_skip {i k : Nat} (m : Nat)
    (h : ∀ j, i ≤ j → j < i + k → s.byteAllowed .write p j = true ∧ (j < n2 → s.byteAllowed .read q j = true)) :
    (s.moved p q n2 pad i).moveLong p q n2 pad i (k + m) = (s.moved p q n2 pad (i + k)).moveLong p q n2 pad (i + k) m := by
  induction k generalizing i with
  | zero => rw [Nat.zero_add, Nat.add_zero]
  | succ k ih =>
    obtain ⟨hw, hr⟩ := h i le_rfl (by omega)
    have hread : (decide (n2 ≤ i) || s.byteAllowed .read q i) = true := by
      by_cases hi : i < n2
      · rw [hr hi, Bool.or_true]
      · rw [decide_eq_true (Nat.not_lt.1 hi), Bool.true_or]
    rw [show k + 1 + m = (k + m) + 1 by omega, State.moveLong, s.moved_byteAllowed, s.moved_byteAllowed, hread, hw,
      Bool.and_self, if_pos rfl, ← State.moved, ih fun j h1 h2 => h j (by omega) (by omega), show i + 1 + k = i + (k + 1) by omega]

theorem State.moveLong_stop {i : Nat} (k : Nat) (h : s.byteAllowed .write p i = false ∨ i < n2 ∧ s.byteAllowed .read q i = false) :
    s.moveLong p q n2 pad i (k + 1) = (s, i) := by
  rw [State.moveLong, if_neg]
  obtain h | ⟨hi, h⟩ := h
  · simp [h]
  · simp [h, hi]

end Move

theorem destructive_eq_false {a1 a2 n1 n2 : Nat} (h : a1 ≤ a2 ∨ a2 + min n1 n2 ≤ a1) : destructive a1 a2 n1 n2 = false :=
  and_eq_false_of (h.imp (fun h => decide_eq_false (by omega)) fun h => decide_eq_false (by omega))

theorem ccCompare_natCast (a b : Nat) : ccCompare a b = if a = b then 0 else if a < b then 1 else 2 := by
  simp only [ccCompare, Nat.cast_inj, Nat.cast_lt]

theorem State.padByte_eq (s : State) (r2 : Reg) : s.padByte r2 = (s.getGr (r2 + 1)).extractLsb' 24 8 := byteOf_eq _ (by decide)

section Exec

variable {s : State} {r1 r2 : Reg}

theorem exec_mvcl (h1 : r1.getLsbD 0 = false) (h2 : r2.getLsbD 0 = false) : exec (.mvcl r1 r2) s =
    if destructive (s.opR r1).addr.toNat (s.opR r2).addr.toNat (s.longLength r1) (s.longLength r2) then s.ccResult 3 2
    else s.mvclResult r1 r2 (s.moveLong (s.opR r1) (s.opR r2) (s.longLength r2) (s.padByte r2) 0 (s.longLength r1)) := by
  change execMvcl r1 r2 s = _
  rw [execMvcl, isEven_of_getLsbD h1, isEven_of_getLsbD h2, Bool.and_self, State.require_true]

theorem exec_clcl (h1 : r1.getLsbD 0 = false) (h2 : r2.getLsbD 0 = false) : exec (.clcl r1 r2) s =
    s.clclResult r1 r2 (s.compareLong (s.opR r1) (s.opR r2) (s.longLength r1) (s.longLength r2) (s.padByte r2) 0
      (max (s.longLength r1) (s.longLength r2))) := by
  change execClcl r1 r2 s = _
  rw [execClcl, isEven_of_getLsbD h1, isEven_of_getLsbD h2, Bool.and_self, State.require_true]

end Exec

theorem State.OnlyMem.getGr {s t : State} (h : s.OnlyMem t) (r : Reg) : t.getGr r = s.getGr r := by
  rw [show t = _ from h]
  rfl

theorem State.longProgress_byteAt (s t : State) (r1 r2 : Reg) (k1 k2 : Nat) (l : Loc) (i : Nat) :
    (s.longProgress t r1 r2 k1 k2).byteAt l i = t.byteAt l i := rfl

theorem State.longProgress_sameOutside {s t : State} {l : Loc} {n : Nat} (h : s.SameOutside t l n) (r1 r2 : Reg) (k1 k2 : Nat) :
    s.SameOutside (s.longProgress t r1 r2 k1 k2) l n := h

/-- The end of MVCL changes nothing but the register pairs, storage and CC. -/
theorem State.longProgress_rest {s t : State} (h : s.OnlyMem t) (r1 r2 : Reg) (k1 k2 : Nat) (c : BitVec 2) :
    { ((s.longProgress t r1 r2 k1 k2).setCc c).advance 2 with mem := s.mem, gr := s.gr, cc := s.cc } = s.advance 2 := by
  rw [show t = _ from h]
  rfl

/-- Settles O41: without destructive overlap all bytes of operand 1 are moved. -/
theorem moveLong : Obligations.MoveLong := by
  rintro s r1 r2 _ _ m p q h1 h2 hp hq rfl rfl hm
  rw [← State.longLength_eq, ← State.longLength_eq] at hm
  rw [← State.longLength_eq, ← State.longLength_eq]
  refine ⟨fun hlt hlt' => ?_, fun hno hw hr hdis => ?_⟩
  · rw [exec_mvcl h1 h2, destructive, ← hp, ← hq]
    rw [hm] at hlt'
    rw [decide_eq_true hlt, decide_eq_true hlt']
    rfl
  · have hwrite := (State.allows_iff _ _ _ _).1 hw
    have hread := (State.allows_iff _ _ _ _).1 hr
    have hskip := State.moveLong_skip (s := s) (p := p) (q := q) (n2 := s.longLength r2) (pad := s.padByte r2) (i := 0)
      (k := s.longLength r1) 0 fun j _ hj => ⟨hwrite j (by omega), fun hj2 => hread j (by rw [hm]; exact lt_min (by omega) hj2)⟩
    rw [Nat.zero_add, Nat.add_zero] at hskip
    have hexec : exec (.mvcl r1 r2) s = ((s.longProgress (s.moved p q (s.longLength r2) (s.padByte r2) (s.longLength r1)) r1 r2
        (s.longLength r1) m).setCc (ccCompare (s.longLength r1) (s.longLength r2))).finish 2 := by
      rw [hp, hq, hm] at hno
      rw [exec_mvcl h1 h2, destructive_eq_false hno, if_neg Bool.false_ne_true, ← hp, ← hq]
      refine (congrArg (s.mvclResult r1 r2) hskip).trans ?_
      rw [State.moveLong, State.mvclResult, if_pos rfl, hm]
    have honly := s.moved_onlyMem p q (s.longLength r2) (s.padByte r2) (s.longLength r1)
    obtain ⟨hr1, hl1, hr2, hl2, hother⟩ := State.longProgress_spec (s := s)
      (t := s.moved p q (s.longLength r2) (s.padByte r2) (s.longLength r1)) (k1 := s.longLength r1) (k2 := m) h1 h2
      (fun he => by rw [hm, he, min_self]) le_rfl (hm ▸ min_le_right _ _)
    rw [← hp] at hr1
    rw [← hq] at hr2
    have hlen : s.longLength r1 < 2 ^ 24 := ((s.getGr (r1 + 1)).extractLsb' 0 24).isLt
    have hbytes (i : Nat) (hi : i < s.longLength r1) := (s.longProgress_byteAt _ r1 r2 (s.longLength r1) m p i).trans
      (State.moved_byteAt (s := s) (q := q) (n2 := s.longLength r2) (pad := s.padByte r2) (State.space_of_allows hw (by omega))
        (by omega) (fun i hi hi2 => hdis i (by rw [hm]; exact lt_min hi hi2)) hi)
    have hout := State.longProgress_sameOutside (s.moved_sameOutside p q (s.longLength r2) (s.padByte r2) (s.longLength r1)) r1 r2
      (s.longLength r1) m
    have hrest := State.longProgress_rest honly r1 r2 (s.longLength r1) m (ccCompare (s.longLength r1) (s.longLength r2))
    simp only [honly.getGr] at hother
    rw [← State.padByte_eq]
    generalize s.longProgress (s.moved p q (s.longLength r2) (s.padByte r2) (s.longLength r1)) r1 r2 (s.longLength r1) m = u at *
    exact ⟨_, hexec, hbytes, ccCompare_natCast _ _, hr1, hl1, hr2, hl2, hother, hout, hrest⟩

/-! ## The comparison -/

section Compare

variable {s : State} {p q : Loc} {n1 n2 : Nat} {pad : Byte}

/-- Whether byte i of an operand of n bytes can be read, where it has one. -/
theorem State.readable_or {l : Loc} {n i : Nat} (h : i < n → s.byteAllowed .read l i = true) :
    (decide (n ≤ i) || s.byteAllowed .read l i) = true := by
  by_cases hi : i < n
  · rw [h hi, Bool.or_true]
  · rw [decide_eq_true (Nat.not_lt.1 hi), Bool.true_or]

theorem State.compareLong_skip {i k : Nat} (m : Nat) (h : ∀ j, i ≤ j → j < i + k →
      (j < n1 → s.byteAllowed .read p j = true) ∧ (j < n2 → s.byteAllowed .read q j = true) ∧
        (if j < n1 then s.byteAt p j else pad) = (if j < n2 then s.byteAt q j else pad)) :
    s.compareLong p q n1 n2 pad i (k + m) = s.compareLong p q n1 n2 pad (i + k) m := by
  induction k generalizing i with
  | zero => rw [Nat.zero_add, Nat.add_zero]
  | succ k ih =>
    obtain ⟨hr1, hr2, heq⟩ := h i le_rfl (by omega)
    rw [show k + 1 + m = (k + m) + 1 by omega, State.compareLong, State.readable_or hr1, State.readable_or hr2, Bool.and_self,
      if_pos rfl, if_pos heq, ih fun j h1 h2 => h j (by omega) (by omega), show i + 1 + k = i + (k + 1) by omega]

theorem State.compareLong_differ {i : Nat} (k : Nat) (hr1 : i < n1 → s.byteAllowed .read p i = true)
    (hr2 : i < n2 → s.byteAllowed .read q i = true)
    (hne : (if i < n1 then s.byteAt p i else pad) ≠ (if i < n2 then s.byteAt q i else pad)) :
    s.compareLong p q n1 n2 pad i (k + 1) =
      (i, .ok (ccCompare (if i < n1 then s.byteAt p i else pad).toNat (if i < n2 then s.byteAt q i else pad).toNat)) := by
  rw [State.compareLong, State.readable_or hr1, State.readable_or hr2, Bool.and_self, if_pos rfl, if_neg hne]

theorem State.compareLong_stop {i : Nat} (k : Nat)
    (h : i < n1 ∧ s.byteAllowed .read p i = false ∨ i < n2 ∧ s.byteAllowed .read q i = false) :
    s.compareLong p q n1 n2 pad i (k + 1) = (i, .error .addressTranslation) := by
  rw [State.compareLong, if_neg]
  obtain ⟨hi, h⟩ | ⟨hi, h⟩ := h
  · simp [h, hi]
  · simp [h, hi]

end Compare

/-- Settles O42: the comparison passes over k equal pairs and ends there. -/
theorem compareLong : Obligations.CompareLong := by
  rintro s r1 r2 n1 n2 k p q x y h1 h2 hp hq hn1 hn2 hx hy hk ha1 ha2 heq hne
  rw [← State.longLength_eq] at hn1 hn2
  rw [← State.padByte_eq] at hx hy
  subst hx hy
  have hread1 := (State.allows_iff _ _ _ _).1 ha1
  have hread2 := (State.allows_iff _ _ _ _).1 ha2
  obtain ⟨m, hm⟩ : ∃ m, max n1 n2 = k + m := ⟨max n1 n2 - k, by omega⟩
  have hskip := State.compareLong_skip (s := s) (p := p) (q := q) (n1 := n1) (n2 := n2) (pad := s.padByte r2) (i := 0) (k := k) m
    fun j _ hj => ⟨fun h => hread1 j (lt_min (by omega) h), fun h => hread2 j (lt_min (by omega) h), heq j (by omega)⟩
  rw [Nat.zero_add, ← hm] at hskip
  obtain ⟨c, hc, hcc⟩ : ∃ c, s.compareLong p q n1 n2 (s.padByte r2) k m = (k, .ok c) ∧
      c = if k = max n1 n2 then 0 else if (if k < n1 then s.byteAt p k else s.padByte r2).toNat <
        (if k < n2 then s.byteAt q k else s.padByte r2).toNat then 1 else 2 := by
    cases m with
    | zero => exact ⟨0, rfl, (if_pos (by omega)).symm⟩
    | succ m =>
      have hdiff := hne (by omega)
      refine ⟨_, State.compareLong_differ m (fun h => hread1 k (lt_min (by omega) h)) (fun h => hread2 k (lt_min (by omega) h))
        hdiff, ?_⟩
      rw [if_neg (show ¬ k = max n1 n2 by omega), ccCompare_natCast, if_neg fun h => hdiff (BitVec.eq_of_toNat_eq h)]
  have hexec : exec (.clcl r1 r2) s = (s.longProgress s r1 r2 (min k n1) (min k n2)).ccResult c 2 := by
    subst hp hq hn1 hn2
    rw [exec_clcl h1 h2]
    refine (congrArg (s.clclResult r1 r2) (hskip.trans hc)).trans ?_
    rfl
  obtain ⟨hr1, hl1, hr2, hl2, hother⟩ := State.longProgress_spec (s := s) (t := s) (k1 := min k n1) (k2 := min k n2) h1 h2
    (fun he => by rw [hn1, hn2, he]) (hn1 ▸ min_le_right _ _) (hn2 ▸ min_le_right _ _)
  rw [← hp] at hr1
  rw [← hq] at hr2
  exact ⟨_, hexec, hcc, hr1, hl1, hr2, hl2, hother, rfl⟩

end Sys2Proof.Machine
end

section
/-! Accesses that fail: O59. -/

namespace Sys2Proof.Machine

/-! ## Operands that are read -/

theorem State.readAligned_of_readD_error {s : State} {l : Loc} {k : Interruption} (h : s.readD l = .error k) :
    s.readAligned l 8 = .error k := by
  rw [State.readD] at h
  cases hr : s.readAligned l 8 with
  | ok v => rw [hr] at h; cases h
  | error e => rw [hr] at h; exact congrArg Except.error (Except.error.inj h)

theorem State.readB_error {s : State} {l : Loc} (h : s.byteAllowed .read l 0 = false) : s.readB l = .error .addressTranslation := by
  rw [State.readB, State.read_of_not_allows ((s.allows_one .read l).trans h)]
  rfl

/-- A check, then an operand that cannot be read. -/
theorem State.require_withOperand_error {α : Type} {s : State} {c : Bool} (hc : c = true) {x : Except Interruption α} {k : Interruption}
    (hx : x = .error k) (e : Interruption) (f : α → Result) : s.require c e (s.withOperand x f) = s.interrupt k := by
  rw [hc, State.require_true, State.withOperand_of_error hx]

theorem clm_icm_error {s : State} {b : Reg} {d : Disp} {m3 : Mask} (r1 : Reg)
    (h : s.allows .read (s.opB b d) (if m3 = 0 then 1 else m3.cpop.toNat) = false) :
    exec (.clm r1 m3 b d) s = s.interrupt .addressTranslation ∧ exec (.icm r1 m3 b d) s = s.interrupt .addressTranslation := by
  change execClm r1 m3 b d s = _ ∧ execIcm r1 m3 b d s = _
  rw [execClm, execIcm, maskCount_eq_cpop]
  by_cases hm : m3 = 0
  · rw [if_pos hm] at h
    rw [if_pos hm, if_pos hm]
    exact ⟨State.withOperand_of_error (State.read_of_not_allows h) _, State.withOperand_of_error (State.read_of_not_allows h) _⟩
  · rw [if_neg hm] at h
    rw [if_neg hm, if_neg hm]
    exact ⟨State.withOperand_of_error (State.read_of_not_allows h) _, State.withOperand_of_error (State.read_of_not_allows h) _⟩

/-! ## Operands that are stored -/

theorem State.writeAligned_misaligned {s : State} {l : Loc} {n : Nat} (h : s.misaligned l n = true) (v : Nat) :
    s.writeAligned l n v = .error .specification := if_pos h

theorem State.writeAligned_of_not_allows {s : State} {l : Loc} {n : Nat} (hm : s.misaligned l n = false)
    (h : s.allows .write l n = false) (v : Nat) : s.writeAligned l n v = .error .addressTranslation := by
  rw [State.writeAligned, if_neg (by simp [hm]), State.write_of_not_allows h]

/-- What a result is where a store cannot be made. -/
def State.StoreFails (s : State) (r : Result) (l : Loc) (n : Nat) : Prop :=
  (s.misaligned l n = true → r = s.interrupt .specification) ∧
    (s.misaligned l n = false → s.allows .write l n = false → r = s.interrupt .addressTranslation)

theorem State.writeAligned_storeFails (s : State) (l : Loc) (n v : Nat) (f : State → Result) :
    s.StoreFails (s.withOperand (s.writeAligned l n v) f) l n :=
  ⟨fun h => State.withOperand_of_error (State.writeAligned_misaligned h v) f,
    fun hm h => State.withOperand_of_error (State.writeAligned_of_not_allows hm h v) f⟩

theorem State.write_storeFails (s : State) (l : Loc) (v : Nat) (f : State → Result) :
    s.StoreFails (s.withOperand (s.write l 1 v) f) l 1 :=
  ⟨fun h => absurd h (by rw [State.misaligned_one]; exact Bool.false_ne_true),
    fun _ h => State.withOperand_of_error (State.write_of_not_allows h v) f⟩

theorem State.readWords_misaligned {s : State} {l : Loc} (h : s.misaligned l 4 = true) (n : Nat) :
    s.readWords l n = .error .specification := if_pos h

theorem State.readWords_of_not_allows {s : State} {l : Loc} {n : Nat} (hm : s.misaligned l 4 = false)
    (h : s.allows .read l (4 * n) = false) : s.readWords l n = .error .addressTranslation := by
  rw [State.readWords, if_neg (by simp [hm]), State.read_of_not_allows h]

theorem State.writeWords_misaligned {s : State} {l : Loc} (h : s.misaligned l 4 = true) (n v : Nat) :
    s.writeWords l n v = .error .specification := if_pos h

theorem State.writeWords_of_not_allows {s : State} {l : Loc} {n : Nat} (hm : s.misaligned l 4 = false)
    (h : s.allows .write l (4 * n) = false) (v : Nat) : s.writeWords l n v = .error .addressTranslation := by
  rw [State.writeWords, if_neg (by simp [hm]), State.write_of_not_allows h]

/-! ## Updates, and two operands in storage -/

theorem State.interlocked_misaligned {s : State} {l : Loc} {n : Nat} (h : l.addr.toNat % n ≠ 0) (r : Result) :
    s.interlocked l n r = s.interrupt .specification :=
  s.require_of_false (beq_eq_false_iff_ne.2 h) _ _

theorem State.interlocked_of_not_allows {s : State} {l : Loc} {n : Nat} (hn : l.addr.toNat % n = 0)
    (h : s.allows .update l n = false) (r : Result) : s.interlocked l n r = s.interrupt .addressTranslation := by
  rw [State.interlocked, hn, h]
  rfl

theorem exec_cds {s : State} {r1 r3 : Reg} (h1 : r1.getLsbD 0 = false) (h3 : r3.getLsbD 0 = false) (b : Reg) (d : Disp) :
    exec (.cds r1 r3 b d) s = s.interlocked (s.opB b d) 8
      (if s.value (s.opB b d) 8 = (s.getPair r1).toNat then ((s.store (s.opB b d) 8 (s.getPair r3).toNat).setCc 0).finish 4
       else ((s.setPair r1 (BitVec.ofNat 64 (s.value (s.opB b d) 8))).setCc 1).finish 4) := by
  change execCds r1 r3 b d s = _
  rw [execCds, isEven_of_getLsbD h1, isEven_of_getLsbD h3, Bool.and_self, State.require_true]

theorem State.requireBoth_fails {s : State} {k : Access} {l1 l2 : Loc} {n1 n2 : Nat}
    (h : s.allows k l1 n1 = false ∨ s.allows .read l2 n2 = false) (r : Result) :
    s.requireBoth k l1 n1 l2 n2 r = s.interrupt .addressTranslation := by
  rw [State.requireBoth]
  cases h1 : s.allows k l1 n1 with
  | false => rw [State.require_false]
  | true => rw [h.resolve_left (by rw [h1]; exact Bool.true_eq_false.mp), State.require_true, State.require_false]

theorem lengthsOk_of {l1 l2 : Nat} (h8 : l2 ≤ 8) (hlt : l2 < l1) : lengthsOk l1 l2 = true := by
  rw [lengthsOk, decide_eq_true h8, decide_eq_true hlt, Bool.and_self]

theorem State.translate_stop {s : State} {p q : Loc} {i : Nat} (k : Nat)
    (h : s.byteAllowed .read q (s.byteAt p i).toNat = false) : s.translate p q i (k + 1) = .error .addressTranslation := by
  rw [State.translate, if_neg (by simp [h])]

/-- TR stops at the first table byte that cannot be read. -/
theorem State.translate_error {s : State} {p q : Loc} {l k : Nat} (hs : p.space ≠ none) (hl : l ≤ 256) (hk : k < l)
    (h : s.byteAllowed .read q (s.byteAt p k).toNat = false) : s.translate p q 0 l = .error .addressTranslation := by
  induction k using Nat.strong_induction_on with
  | _ k ih =>
    by_cases hall : ∀ j < k, s.byteAllowed .read q (s.byteAt p j).toNat = true
    · obtain ⟨m, rfl⟩ : ∃ m, l = k + (m + 1) := ⟨l - k - 1, by omega⟩
      have hskip := State.translate_skip (s := s) (i := 0) (k := k) (m + 1) hs (by omega) fun j _ hj => hall j (by omega)
      rw [Nat.zero_add] at hskip
      refine hskip.trans (State.translate_stop m ?_)
      rw [s.translated_byteAllowed, s.translated_byteAt q hs (by omega)]
      exact h
    · push Not at hall
      obtain ⟨j, hj, hno⟩ := hall
      exact ih j hj (by omega) (Bool.eq_false_iff.2 hno)

/-! ## MVCL and CLCL -/

section Long

variable {s : State} {r1 r2 : Reg} {n1 n2 k : Nat} {p q : Loc}

theorem State.space_ne_none_of_byteAllowed {a : Access} {l : Loc} {i : Nat} (h : s.byteAllowed a l i = true) : l.space ≠ none := by
  obtain ⟨sp, hsp⟩ := State.space_of_byteAllowed h
  rw [hsp]
  exact Option.some_ne_none sp

theorem State.longProgress_only {t : State} (h : s.OnlyMem t) (r1 r2 : Reg) (k1 k2 : Nat) :
    { s.longProgress t r1 r2 k1 k2 with mem := s.mem, gr := s.gr } = s := by
  rw [show t = _ from h]
  rfl

/-- MVCL up to byte k, which cannot be accessed. -/
theorem exec_mvcl_stop (h1 : r1.getLsbD 0 = false) (h2 : r2.getLsbD 0 = false) (hp : p = s.opR r1) (hq : q = s.opR r2)
    (hn1 : n1 = s.longLength r1) (hn2 : n2 = s.longLength r2)
    (hno : p.addr.toNat ≤ q.addr.toNat ∨ q.addr.toNat + min n1 n2 ≤ p.addr.toNat) (hk : k < n1)
    (hok : ∀ i < k, s.byteAllowed .write p i = true ∧ (i < n2 → s.byteAllowed .read q i = true))
    (hstop : s.byteAllowed .write p k = false ∨ k < n2 ∧ s.byteAllowed .read q k = false) :
    exec (.mvcl r1 r2) s =
      (s.longProgress (s.moved p q n2 (s.padByte r2) k) r1 r2 k (min k n2)).interrupt .addressTranslation := by
  obtain ⟨m, hm⟩ : ∃ m, n1 = k + (m + 1) := ⟨n1 - k - 1, by omega⟩
  have hskip := State.moveLong_skip (s := s) (p := p) (q := q) (n2 := n2) (pad := s.padByte r2) (i := 0) (k := k) (m + 1)
    fun j _ hj => hok j (by omega)
  rw [Nat.zero_add, ← hm] at hskip
  have hmove := hskip.trans (State.moveLong_stop m (by rw [s.moved_byteAllowed, s.moved_byteAllowed]; exact hstop))
  subst hp hq hn2
  rw [hn1] at hno
  rw [exec_mvcl h1 h2, destructive_eq_false hno, if_neg Bool.false_ne_true, ← hn1]
  refine (congrArg (s.mvclResult r1 r2) hmove).trans ?_
  rw [State.mvclResult, if_neg (by omega)]

/-- CLCL up to byte k, which cannot be read. -/
theorem exec_clcl_stop (h1 : r1.getLsbD 0 = false) (h2 : r2.getLsbD 0 = false) (hp : p = s.opR r1) (hq : q = s.opR r2)
    (hn1 : n1 = s.longLength r1) (hn2 : n2 = s.longLength r2) (hk : k < max n1 n2)
    (hok : ∀ i < k, (i < n1 → s.byteAllowed .read p i = true) ∧ (i < n2 → s.byteAllowed .read q i = true) ∧
      (if i < n1 then s.byteAt p i else s.padByte r2) = (if i < n2 then s.byteAt q i else s.padByte r2))
    (hstop : k < n1 ∧ s.byteAllowed .read p k = false ∨ k < n2 ∧ s.byteAllowed .read q k = false) :
    exec (.clcl r1 r2) s = (s.longProgress s r1 r2 (min k n1) (min k n2)).interrupt .addressTranslation := by
  obtain ⟨m, hm⟩ : ∃ m, max n1 n2 = k + (m + 1) := ⟨max n1 n2 - k - 1, by omega⟩
  have hskip := State.compareLong_skip (s := s) (p := p) (q := q) (n1 := n1) (n2 := n2) (pad := s.padByte r2) (i := 0) (k := k)
    (m + 1) fun j _ hj => hok j (by omega)
  rw [Nat.zero_add, ← hm] at hskip
  subst hp hq hn1 hn2
  rw [exec_clcl h1 h2]
  exact congrArg (s.clclResult r1 r2) (hskip.trans (State.compareLong_stop m hstop))

end Long

/-- Settles O59: the first access that fails ends each of these instructions. -/
theorem failingAccessSuppresses : Obligations.FailingAccessSuppresses := by
  intro s r1 r3 x b d m3 i2
  refine ⟨fun k hk => ⟨?_, fun heven => ?_, fun hreg => ?_⟩, fun k hk => ?_, fun k hk => ⟨?_, fun hreg => ?_, fun hreg => ?_⟩,
    fun h => ?_, fun h => ?_, fun h => clm_icm_error r1 h, fun c hc hreg => ?_, fun h => ?_, fun n hn c hc hesa => ?_, fun h => ?_,
    fun c hc heven => ?_, fun l1 l2 b2 d2 c hc hlen h => ?_, fun l b2 d2 i3 h => ?_, fun l k b2 d2 hl hk h => ?_,
    fun r2 n1 n2 k p q pad h1 h2 hp hq hn1 hn2 hpad => ⟨fun hno hk hok hstop => ?_, fun hk hok hstop => ?_⟩⟩
  · simp only [List.forall_mem_cons, List.not_mem_nil, false_imp_iff, implies_true, and_true]
    and_intros <;> exact State.withOperand_of_error hk _
  · exact ⟨State.require_withOperand_error (isEven_of_getLsbD heven) hk _ _,
      State.require_withOperand_error (isEven_of_getLsbD heven) hk _ _⟩
  · simp only [List.forall_mem_cons, List.not_mem_nil, false_imp_iff, implies_true, and_true]
    and_intros <;> exact State.require_withOperand_error (isFpr_of_mem hreg) hk _ _
  · simp only [List.forall_mem_cons, List.not_mem_nil, false_imp_iff, implies_true, and_true]
    and_intros <;> exact State.withOperand_of_error hk _
  · exact State.withOperand_of_error (State.readAligned_of_readD_error hk) _
  · exact State.require_withOperand_error (isFprPair_of_mem hreg) hk _ _
  · simp only [List.forall_mem_cons, List.not_mem_nil, false_imp_iff, implies_true, and_true]
    and_intros <;> exact State.require_withOperand_error (isFpr_of_mem hreg) hk _ _
  · exact State.withOperand_of_error (State.readB_error h) _
  · exact State.withOperand_of_error (State.readB_error h) _
  · simp only [List.mem_cons, List.not_mem_nil, or_false] at hc
    obtain rfl | rfl | rfl | rfl | rfl | rfl | rfl | rfl := hc
    · exact s.writeAligned_storeFails _ 4 _ _
    · exact s.writeAligned_storeFails _ 2 _ _
    · exact s.write_storeFails _ _ _
    · change s.StoreFails (execSte r1 x b d s) _ _
      rw [execSte, isFpr_of_mem (by simpa using hreg), State.require_true]
      exact s.writeAligned_storeFails _ 4 _ _
    · change s.StoreFails (execStd r1 x b d s) _ _
      rw [execStd, isFpr_of_mem (by simpa using hreg), State.require_true]
      exact s.writeAligned_storeFails _ 8 _ _
    · exact s.writeAligned_storeFails _ 8 _ _
    · exact s.writeAligned_storeFails _ 8 _ _
    · exact s.write_storeFails _ _ _
  · rw [← maskCount_eq_cpop] at h
    exact State.withOperand_of_error (State.write_of_not_allows h _) _
  · rw [← regCount_eq] at hn
    subst hn
    simp only [List.mem_cons, List.not_mem_nil, or_false] at hc
    obtain rfl | rfl | rfl | rfl := hc
    · exact ⟨fun hm => State.withOperand_of_error (State.readWords_misaligned hm _) _,
        fun hm h => State.withOperand_of_error (State.readWords_of_not_allows hm h) _⟩
    · exact ⟨fun hm => State.withOperand_of_error (State.writeWords_misaligned hm _ _) _,
        fun hm h => State.withOperand_of_error (State.writeWords_of_not_allows hm h _) _⟩
    · exact ⟨fun hm => State.require_withOperand_error hesa (State.readWords_misaligned hm _) _ _,
        fun hm h => State.require_withOperand_error hesa (State.readWords_of_not_allows hm h) _ _⟩
    · exact ⟨fun hm => State.require_withOperand_error hesa (State.writeWords_misaligned hm _ _) _ _,
        fun hm h => State.require_withOperand_error hesa (State.writeWords_of_not_allows hm h _) _ _⟩
  · simp only [List.forall_mem_cons, List.not_mem_nil, false_imp_iff, implies_true, and_true]
    and_intros <;> exact s.require_of_false h _ _
  · simp only [List.mem_cons, List.not_mem_nil, or_false] at hc
    obtain rfl | rfl := hc
    · exact ⟨fun hm => State.interlocked_misaligned hm _, fun hm h => State.interlocked_of_not_allows hm h _⟩
    · rw [exec_cds heven.1 heven.2]
      exact ⟨fun hm => State.interlocked_misaligned hm _, fun hm h => State.interlocked_of_not_allows hm h _⟩
  · simp only [List.mem_cons, List.not_mem_nil, or_false] at hc
    obtain rfl | rfl | rfl | rfl | rfl | rfl | rfl | rfl | rfl | rfl | rfl | rfl | rfl | rfl | rfl := hc
    iterate 6
      · obtain rfl : l1 = l2 := hlen
        exact State.requireBoth_fails h _
    iterate 7
      · exact State.requireBoth_fails h _
    · change execMp l1 l2 b d b2 d2 s = _
      rw [execMp, lengthsOk_of hlen.1 hlen.2, State.require_true]
      exact State.requireBoth_fails h _
    · change execDp l1 l2 b d b2 d2 s = _
      rw [execDp, lengthsOk_of hlen.1 hlen.2, State.require_true]
      exact State.requireBoth_fails h _
  · simp only [List.forall_mem_cons, List.not_mem_nil, false_imp_iff, implies_true, and_true]
    and_intros <;> exact s.require_of_false h _ _
  · change execTr l b d b2 d2 s = _
    rw [execTr]
    cases ha : s.allows .update (s.opB b d) l with
    | false => rw [State.require_false]
    | true =>
      rw [State.require_true, State.withOperand_of_error (State.translate_error (State.space_of_allows ha (by omega)) hl hk h)]
  · rw [← State.longLength_eq] at hn1 hn2
    rw [← State.padByte_eq] at hpad
    subst hpad
    obtain ⟨hr1, hl1, hr2, hl2, hother⟩ := State.longProgress_spec (s := s) (t := s.moved p q n2 (s.padByte r2) k) (k1 := k)
      (k2 := min k n2) h1 h2 (fun he => by rw [hn2, ← he, ← hn1, min_eq_left hk.le]) (hn1 ▸ hk.le) (hn2 ▸ min_le_right _ _)
    rw [← hp] at hr1
    rw [← hq] at hr2
    have honly := s.moved_onlyMem p q n2 (s.padByte r2) k
    simp only [honly.getGr] at hother
    have hlen : s.longLength r1 < 2 ^ 24 := ((s.getGr (r1 + 1)).extractLsb' 0 24).isLt
    have hbytes (hdis : ∀ i < k, ∀ j < i, p.key j ≠ q.key i) (i : Nat) (hi : i < k) :=
      (s.longProgress_byteAt _ r1 r2 k (min k n2) p i).trans (State.moved_byteAt (s := s) (q := q) (n2 := n2) (pad := s.padByte r2)
        (State.space_ne_none_of_byteAllowed (hok i hi).1) (by omega) (fun i hi _ => hdis i hi) hi)
    have hout := State.longProgress_sameOutside (s.moved_sameOutside p q n2 (s.padByte r2) k) r1 r2 k (min k n2)
    have hrest := State.longProgress_only honly r1 r2 k (min k n2)
    have hexec := exec_mvcl_stop h1 h2 hp hq hn1 hn2 hno hk hok hstop
    generalize s.longProgress (s.moved p q n2 (s.padByte r2) k) r1 r2 k (min k n2) = u at *
    exact ⟨u, hexec, hbytes, hr1, hl1, hr2, hl2, hother, hout, hrest⟩
  · rw [← State.longLength_eq] at hn1 hn2
    rw [← State.padByte_eq] at hpad
    subst hpad
    obtain ⟨hr1, hl1, hr2, hl2, hother⟩ := State.longProgress_spec (s := s) (t := s) (k1 := min k n1) (k2 := min k n2)
      h1 h2 (fun he => by rw [hn1, hn2, he]) (hn1 ▸ min_le_right _ _) (hn2 ▸ min_le_right _ _)
    rw [← hp] at hr1
    rw [← hq] at hr2
    exact ⟨_, exec_clcl_stop h1 h2 hp hq hn1 hn2 hk hok hstop, hr1, hl1, hr2, hl2, hother, rfl⟩

end Sys2Proof.Machine
end

section
/-! The packed decimal format, and the decimal instructions: O43, O44, O45, O46, O47 and O50. -/

namespace Sys2Proof.Machine

/-! ## The packed format -/

theorem digitsOf_lt (n m : Nat) : digitsOf n m < 16 ^ n := by
  induction n generalizing m with
  | zero => exact Nat.one_pos
  | succ n ih =>
    have := ih (m / 10)
    rw [digitsOf, pow_succ]
    omega

theorem digitsOf_mod (n m : Nat) : digitsOf (n + 1) m % 16 = m % 10 ∧ digitsOf (n + 1) m / 16 = digitsOf n (m / 10) := by
  rw [digitsOf]
  omega

theorem digitsOk_digitsOf (n m : Nat) : digitsOk n (digitsOf n m) = true := by
  induction n generalizing m with
  | zero => rfl
  | succ n ih =>
    obtain ⟨hmod, hdiv⟩ := digitsOf_mod n m
    rw [digitsOk, hmod, hdiv, ih, decide_eq_true (by omega), Bool.and_self]

theorem digitsVal_digitsOf (n m : Nat) : digitsVal n (digitsOf n m) = m % 10 ^ n := by
  induction n generalizing m with
  | zero => rw [pow_zero, Nat.mod_one]; rfl
  | succ n ih =>
    obtain ⟨hmod, hdiv⟩ := digitsOf_mod n m
    rw [digitsVal, hmod, hdiv, ih, pow_succ', Nat.mod_mul]
    omega

theorem digitsVal_lt {n v : Nat} (h : digitsOk n v = true) : digitsVal n v < 10 ^ n := by
  induction n generalizing v with
  | zero => exact Nat.one_pos
  | succ n ih =>
    obtain ⟨hdigit, hrest⟩ := (Bool.and_eq_true_iff ..).1 h
    have hlow := of_decide_eq_true hdigit
    have := ih hrest
    rw [digitsVal, pow_succ]
    omega

/-- A number that is small enough has zeros to its left. -/
theorem digitsVal_of_lt {n k v : Nat} (hk : k ≤ n) (hv : v < 16 ^ k) (h : digitsOk n v = true) :
    digitsVal n v = digitsVal k v ∧ digitsOk k v = true := by
  induction k generalizing n v with
  | zero =>
    obtain rfl : v = 0 := by rw [pow_zero] at hv; omega
    refine ⟨?_, rfl⟩
    clear hk h hv
    induction n with
    | zero => rfl
    | succ n ih =>
      change digitsVal n 0 * 10 + 0 = 0
      rw [ih]
      rfl
  | succ k ih =>
    obtain ⟨n, rfl⟩ : ∃ m, n = m + 1 := ⟨n - 1, by omega⟩
    obtain ⟨hdigit, hrest⟩ := (Bool.and_eq_true_iff ..).1 h
    obtain ⟨hval, hok⟩ := ih (n := n) (v := v / 16) (by omega) (by rw [pow_succ] at hv; omega) hrest
    exact ⟨by rw [digitsVal, digitsVal, hval], by rw [digitsOk, hok, hdigit, Bool.and_self]⟩

/-- A packed number with a sign code: what its field says. -/
theorem packed_spec {n m c : Nat} (hn : 1 ≤ n) (hc : 10 ≤ c) (hc' : c < 16) :
    decValid n (digitsOf (2 * n - 1) m * 16 + c) = true ∧ decMag n (digitsOf (2 * n - 1) m * 16 + c) = m % 10 ^ (2 * n - 1) ∧
      (digitsOf (2 * n - 1) m * 16 + c) % 16 = c ∧ digitsOf (2 * n - 1) m * 16 + c < 256 ^ n := by
  have hdiv : (digitsOf (2 * n - 1) m * 16 + c) / 16 = digitsOf (2 * n - 1) m := by omega
  have hmod : (digitsOf (2 * n - 1) m * 16 + c) % 16 = c := by omega
  have hpow : 256 ^ n = 16 ^ (2 * n - 1) * 16 := by
    rw [← pow_succ, show 2 * n - 1 + 1 = 2 * n by omega, pow_mul]
    rfl
  have hlt := digitsOf_lt (2 * n - 1) m
  refine ⟨?_, ?_, hmod, by omega⟩
  · rw [decValid, hdiv, hmod, digitsOk_digitsOf, decide_eq_true hc, Bool.and_self]
  · rw [decMag, hdiv, digitsVal_digitsOf]

theorem decEnc_spec {n : Nat} (m : Nat) (neg : Bool) (hn : 1 ≤ n) :
    decValid n (decEnc n m neg) = true ∧ decMag n (decEnc n m neg) = m % 10 ^ (2 * n - 1) ∧
      decEnc n m neg % 16 = (if neg then 13 else 12) ∧ decEnc n m neg < 256 ^ n :=
  packed_spec hn (by cases neg <;> decide) (by cases neg <;> decide)

theorem decNeg_decEnc (n m : Nat) (neg : Bool) (hn : 1 ≤ n) : decNeg (decEnc n m neg) = neg := by
  obtain ⟨-, -, hsign, -⟩ := decEnc_spec m neg hn
  rw [decNeg, hsign]
  cases neg <;> rfl

theorem decMag_lt {n v : Nat} (h : decValid n v = true) : decMag n v < 10 ^ (2 * n - 1) :=
  digitsVal_lt ((Bool.and_eq_true_iff ..).1 h).1

/-- The number that the field of an integer holds where it fits. -/
theorem decVal_decEnc {n : Nat} (v : Int) (hn : 1 ≤ n) (hv : v.natAbs < 10 ^ (2 * n - 1)) :
    decVal n (decEnc n v.natAbs (decide (v < 0))) = v := by
  obtain ⟨-, hmag, -, -⟩ := decEnc_spec v.natAbs (decide (v < 0)) hn
  rw [decVal, decNeg_decEnc _ _ _ hn, hmag, Nat.mod_eq_of_lt hv]
  by_cases h : v < 0
  · rw [decide_eq_true h, if_pos rfl]
    omega
  · rw [decide_eq_false h, if_neg Bool.false_ne_true]
    omega

/-! ## The common rules -/

section Common

variable {s : State} {k : Access} {p q : Loc} {l1 l2 : Nat}

theorem State.decimals_ok (ha : s.allows k p l1 = true) (hr : s.allows .read q l2 = true) (hov : badOverlap p l1 q l2 = false)
    (h1 : decValid l1 (s.value p l1) = true) (h2 : decValid l2 (s.value q l2) = true) (f : Nat → Nat → Result) :
    s.decimals k p l1 q l2 f = f (s.value p l1) (s.value q l2) := by
  rw [State.decimals, State.requireBoth_ok ha hr, hov, h1, h2]
  rfl

theorem State.decimals_data (ha : s.allows k p l1 = true) (hr : s.allows .read q l2 = true)
    (h : badOverlap p l1 q l2 = true ∨ decValid l1 (s.value p l1) = false ∨ decValid l2 (s.value q l2) = false)
    (f : Nat → Nat → Result) : s.decimals k p l1 q l2 f = s.interrupt .data := by
  rw [State.decimals, State.requireBoth_ok ha hr]
  cases hov : badOverlap p l1 q l2 with
  | true => rfl
  | false =>
    rw [Bool.not_false, State.require_true]
    exact s.require_of_false (and_eq_false_of (h.resolve_left (by simp [hov]))) _ _

/-- The end of an instruction that may raise a decimal overflow. -/
theorem State.complete_decimal (s t : State) (c : Prop) [Decidable c] :
    (c → t.complete 6 (s.decimalOverflow (decide c)) = .next (t.advance 6)) ∧
      (¬ c → t.complete 6 (s.decimalOverflow (decide c)) =
        if s.pm.getMsbD 1 then (t.advance 6).interrupt .decimalOverflow else .next (t.advance 6)) := by
  refine ⟨fun h => ?_, fun h => ?_⟩
  · rw [decide_eq_true h]
    rfl
  · rw [decide_eq_false h, State.decimalOverflow, if_neg Bool.false_ne_true, State.maskDecimal, masked]
    split <;> rfl

theorem natAbs_mod_spec {v : Int} {n : Nat} : decEnc n (v.natAbs % decLimit n) (decide (v < 0)) = decEnc n v.natAbs (decide (v < 0)) := by
  have hmod (k m : Nat) : digitsOf k (m % 10 ^ k) = digitsOf k m := by
    induction k generalizing m with
    | zero => rfl
    | succ k ih =>
      rw [digitsOf, digitsOf, pow_succ', Nat.mod_mul_right_div_self, ih, Nat.mod_mul_right_mod]
  rw [decEnc, decEnc, decLimit, hmod]

/-- The state after the store of a number with a CC. -/
theorem State.store_setCc_spec {n v : Nat} (ha : s.allows k p n = true) (hn : n ≤ 16777216) (hv : v < 256 ^ n) (c : BitVec 2) :
    ∃ t, ((s.store p n v).setCc c).advance 6 = t ∧ t.value p n = v ∧ t.cc = c ∧ s.SameOutside t p n ∧
      { t with mem := s.mem, cc := s.cc } = s.advance 6 := by
  obtain ⟨hval, hout, honly⟩ := State.store_spec ha hn hv
  exact ⟨_, rfl, (State.value_congr_mem (s := s.store p n v) (t := ((s.store p n v).setCc c).advance 6) rfl p n).trans hval, rfl,
    hout, honly.setCc_advance c 6⟩

/-- The end of AP, SP and ZAP for an exact result. -/
theorem State.decimalResult_spec (h1 : 1 ≤ l1) (h1' : l1 ≤ 16) (ha : s.allows k p l1 = true) {r : Result} {v : Int}
    (hr : r = s.decimalResult p l1 v) :
    ∃ t : State, decValid l1 (t.value p l1) = true ∧ decMag l1 (t.value p l1) = v.natAbs % 10 ^ (2 * l1 - 1) ∧
      t.value p l1 % 16 = (if v < 0 then 0xD else 0xC) ∧
      s.SameOutside t p l1 ∧ { t with mem := s.mem, cc := s.cc } = s.advance 6 ∧
      (v.natAbs < 10 ^ (2 * l1 - 1) → r = .next t ∧ decVal l1 (t.value p l1) = v ∧
        t.cc = if v = 0 then 0 else if v < 0 then 1 else 2) ∧
      (10 ^ (2 * l1 - 1) ≤ v.natAbs → t.cc = 3 ∧ r = if s.pm.getMsbD 1 then t.interrupt .decimalOverflow else .next t) := by
  obtain ⟨hvalid, hmag, hsign, hlt⟩ := decEnc_spec v.natAbs (decide (v < 0)) h1
  obtain ⟨t, ht, hval, hcc, hout, hrest⟩ := State.store_setCc_spec ha (by omega) hlt (ccFixed (decide (v.natAbs < decLimit l1)) v)
  rw [State.decimalResult, natAbs_mod_spec] at hr
  obtain ⟨hfits, hover⟩ := s.complete_decimal ((s.store p l1 (decEnc l1 v.natAbs (decide (v < 0)))).setCc
    (ccFixed (decide (v.natAbs < decLimit l1)) v)) (v.natAbs < decLimit l1)
  rw [ht] at hfits hover
  simp only [decide_eq_true_iff] at hsign
  rw [← hval] at hvalid hmag hsign
  refine ⟨t, hvalid, hmag, hsign, hout, hrest, fun h => ⟨hr.trans (hfits h), ?_, ?_⟩,
    fun h => ⟨?_, hr.trans (hover (Nat.not_lt.2 h))⟩⟩
  · rw [hval, decVal_decEnc v h1 h]
  · rw [hcc, decide_eq_true (show v.natAbs < decLimit l1 from h)]
    rfl
  · rw [hcc, decide_eq_false (show ¬ v.natAbs < decLimit l1 from Nat.not_lt.2 h)]
    rfl

end Common

/-! ## Sums -/

section Exec

variable (s : State) (l1 l2 : Nat) (b1 : Reg) (d1 : Disp) (b2 : Reg) (d2 : Disp)

theorem exec_ap : exec (.ap l1 l2 b1 d1 b2 d2) s = s.decimals .update (s.opB b1 d1) l1 (s.opB b2 d2) l2 fun x y =>
    s.decimalResult (s.opB b1 d1) l1 (decVal l1 x + decVal l2 y) := rfl

theorem exec_sp : exec (.sp l1 l2 b1 d1 b2 d2) s = s.decimals .update (s.opB b1 d1) l1 (s.opB b2 d2) l2 fun x y =>
    s.decimalResult (s.opB b1 d1) l1 (decVal l1 x - decVal l2 y) := rfl

theorem exec_cp : exec (.cp l1 l2 b1 d1 b2 d2) s = s.decimals .read (s.opB b1 d1) l1 (s.opB b2 d2) l2 fun x y =>
    s.ccResult (ccCompare (decVal l1 x) (decVal l2 y)) 6 := rfl

end Exec

/-- Settles O43: the three end alike, each with its exact result. -/
theorem decimalSums : Obligations.DecimalSums := by
  intro s l1 l2 b1 d1 b2 d2 p q x y h1 h1' h2 h2' hp hq hx hy hr hvalid c hc hcond
  subst hp hq hx hy
  simp only [List.mem_cons, List.not_mem_nil, or_false] at hc
  obtain rfl | rfl | rfl := hc <;> simp only [Bool.and_eq_true, Bool.not_eq_true'] at hcond
  · obtain ⟨⟨ha, hov⟩, hv1⟩ := hcond
    exact State.decimalResult_spec h1 h1' ha ((exec_ap ..).trans (State.decimals_ok ha hr hov hv1 hvalid _))
  · obtain ⟨⟨ha, hov⟩, hv1⟩ := hcond
    exact State.decimalResult_spec h1 h1' ha ((exec_sp ..).trans (State.decimals_ok ha hr hov hv1 hvalid _))
  · obtain ⟨ha, hov⟩ := hcond
    refine State.decimalResult_spec h1 h1' ha ?_
    change execZap l1 l2 b1 d1 b2 d2 s = _
    rw [execZap, State.requireBoth_ok ha hr, hvalid, hov]
    rfl

theorem State.storeFree_fills (s : State) (p : Loc) (n : Nat) :
    Fills p (s.storeFree p) id (fun i => Config.freeByte (256 * s.free + i)) n := fun _ _ => rfl

/-- Settles O44: ZAP with an open overlap stores free bytes and a free CC. -/
theorem zapWithAnOpenOverlapCompletes : Obligations.ZapWithAnOpenOverlapCompletes := by
  intro s l1 l2 b1 d1 b2 d2 p q hp hq ha hr hvalid hopen
  subst hp hq
  have hfill := s.storeFree_fills (s.opB b1 d1) l1
  have honly : s.OnlyMem (s.storeFree (s.opB b1 d1) l1) := hfill.onlyMem le_rfl
  have hexec : exec (.zap l1 l2 b1 d1 b2 d2) s =
      (((s.storeFree (s.opB b1 d1) l1).setCc (Config.freeCc s.free)).useFree).complete 6
        (s.decimalOverflow (decide (decMag l2 (s.value (s.opB b2 d2) l2) < decLimit l1))) := by
    change execZap l1 l2 b1 d1 b2 d2 s = _
    rw [execZap, State.requireBoth_ok ha hr, hvalid, hopen]
    rfl
  have hout : s.SameOutside (s.storeFree (s.opB b1 d1) l1) (s.opB b1 d1) l1 := hfill.sameOutside (fun _ h => h) le_rfl
  obtain ⟨hfits, hover⟩ := s.complete_decimal (((s.storeFree (s.opB b1 d1) l1).setCc (Config.freeCc s.free)).useFree)
    (decMag l2 (s.value (s.opB b2 d2) l2) < decLimit l1)
  refine ⟨(((s.storeFree (s.opB b1 d1) l1).setCc (Config.freeCc s.free)).useFree).advance 6, hout, ?_, fun h => ?_,
    fun h hmask => ?_⟩
  · rw [show s.storeFree (s.opB b1 d1) l1 = _ from honly]
    rfl
  · rw [hexec]
    by_cases hlt : decMag l2 (s.value (s.opB b2 d2) l2) < decLimit l1
    · exact hfits hlt
    · rw [hover hlt, h.resolve_left hlt, if_neg Bool.false_ne_true]
  · rw [hexec, hover (Nat.not_lt.2 h), hmask, if_pos rfl]

/-! ## Comparison and data errors -/

/-- Settles O45: the checks common to the decimal instructions. -/
theorem compareDecimalAndDataErrors : Obligations.CompareDecimalAndDataErrors := by
  intro s l1 l2 b1 d1 b2 d2 i3 p q x y hp hq hx hy
  subst hp hq hx hy
  refine ⟨fun ha hr hov h1 h2 => (exec_cp ..).trans (State.decimals_ok ha hr hov h1 h2 _),
    fun hbad hr => ⟨fun ha => ?_, fun ha => ⟨?_, ?_, fun h8 hlt => ?_⟩⟩,
    fun ha hr hno => ?_, fun ha hbad => ?_⟩
  · exact (exec_cp ..).trans (State.decimals_data ha hr hbad _)
  · exact (exec_ap ..).trans (State.decimals_data ha hr hbad _)
  · exact (exec_sp ..).trans (State.decimals_data ha hr hbad _)
  · change execMp l1 l2 b1 d1 b2 d2 s = _ ∧ execDp l1 l2 b1 d1 b2 d2 s = _
    rw [execMp, execDp, lengthsOk_of h8 hlt, State.require_true, State.require_true]
    exact ⟨State.decimals_data ha hr hbad _, State.decimals_data ha hr hbad _⟩
  · change execZap l1 l2 b1 d1 b2 d2 s = _
    rw [execZap, State.requireBoth_ok ha hr, hno, State.require_false]
  · change execSrp l1 b1 d1 b2 d2 i3 s = _
    rw [execSrp, ha, State.require_true]
    exact s.require_of_false (and_eq_false_of (hbad.imp_right fun h => decide_eq_false (by omega))) _ _

/-! ## Products and quotients -/

theorem decimalOfNeg (neg1 neg2 : Bool) :
    (if (neg1 != neg2) = true then (13 : Nat) else 12) = if neg1 = neg2 then 0xC else 0xD := by
  cases neg1 <;> cases neg2 <;> rfl

/-- The magnitude of a field that begins with zero bytes. -/
theorem decMag_lt_of_zeros {n m x : Nat} (hm : m < n) (hm1 : 1 ≤ m) (h : decValid n x = true) (hx : x < 256 ^ m) :
    decMag n x < 10 ^ (2 * m - 1) := by
  have hpow : 256 ^ m = 16 ^ (2 * m - 1) * 16 := by
    rw [← pow_succ, show 2 * m - 1 + 1 = 2 * m by omega, pow_mul]
    rfl
  obtain ⟨hval, hok⟩ := digitsVal_of_lt (n := 2 * n - 1) (k := 2 * m - 1) (by omega) (by omega) ((Bool.and_eq_true_iff ..).1 h).1
  rw [decMag, hval]
  exact digitsVal_lt hok

theorem exec_mp {s : State} {l1 l2 : Nat} {b1 b2 : Reg} {d1 d2 : Disp} (h8 : l2 ≤ 8) (hlt : l2 < l1)
    (ha : s.allows .update (s.opB b1 d1) l1 = true) (hr : s.allows .read (s.opB b2 d2) l2 = true)
    (hov : badOverlap (s.opB b1 d1) l1 (s.opB b2 d2) l2 = false) (h1 : decValid l1 (s.value (s.opB b1 d1) l1) = true)
    (h2 : decValid l2 (s.value (s.opB b2 d2) l2) = true) : exec (.mp l1 l2 b1 d1 b2 d2) s =
      s.require (s.value (s.opB b1 d1) l1 / 256 ^ (l1 - l2) == 0) .data
        ((s.store (s.opB b1 d1) l1 (decEnc l1 (decMag l1 (s.value (s.opB b1 d1) l1) * decMag l2 (s.value (s.opB b2 d2) l2))
          (decNeg (s.value (s.opB b1 d1) l1) != decNeg (s.value (s.opB b2 d2) l2)))).finish 6) := by
  change execMp l1 l2 b1 d1 b2 d2 s = _
  rw [execMp, lengthsOk_of h8 hlt, State.require_true, State.decimals_ok ha hr hov h1 h2]

theorem exec_dp {s : State} {l1 l2 : Nat} {b1 b2 : Reg} {d1 d2 : Disp} (h8 : l2 ≤ 8) (hlt : l2 < l1)
    (ha : s.allows .update (s.opB b1 d1) l1 = true) (hr : s.allows .read (s.opB b2 d2) l2 = true)
    (hov : badOverlap (s.opB b1 d1) l1 (s.opB b2 d2) l2 = false) (h1 : decValid l1 (s.value (s.opB b1 d1) l1) = true)
    (h2 : decValid l2 (s.value (s.opB b2 d2) l2) = true) : exec (.dp l1 l2 b1 d1 b2 d2) s =
      s.require (decMag l2 (s.value (s.opB b2 d2) l2) != 0 &&
          decide (decMag l1 (s.value (s.opB b1 d1) l1) / decMag l2 (s.value (s.opB b2 d2) l2) < decLimit (l1 - l2))) .divide
        ((s.store (s.opB b1 d1) l1 (divideFields l1 l2 (s.value (s.opB b1 d1) l1) (s.value (s.opB b2 d2) l2))).finish 6) := by
  change execDp l1 l2 b1 d1 b2 d2 s = _
  rw [execDp, lengthsOk_of h8 hlt, State.require_true, State.decimals_ok ha hr hov h1 h2]

/-- The two fields that DP leaves in its operand. -/
theorem State.value_of_two {t : State} {p : Loc} {m n a b : Nat} (h : t.value p (m + n) = a * 256 ^ n + b) (hb : b < 256 ^ n) :
    t.value p m = a ∧ t.value (p.plus m) n = b := by
  have hlow : t.value (p.plus m) n = b := by
    rw [State.value_plus, h, Nat.mul_add_mod_self_right, Nat.mod_eq_of_lt hb]
  refine ⟨?_, hlow⟩
  rw [State.value_add, hlow] at h
  exact Nat.eq_of_mul_eq_mul_right (by positivity) (Nat.add_right_cancel h)

/-- Settles O46: the product fits, and quotient and remainder are two fields side by side. -/
theorem decimalProductAndQuotient : Obligations.DecimalProductAndQuotient := by
  intro s l1 l2 b1 d1 b2 d2 p q x y h1 h8 hlt h16 hp hq hx hy ha hr hov hv1 hv2
  subst hp hq hx hy
  have hmp := exec_mp h8 hlt ha hr hov hv1 hv2
  have hdp := exec_dp h8 hlt ha hr hov hv1 hv2
  refine ⟨fun hz => ?_, fun hnz => ?_, fun hnz hfit => ?_, fun hbad => ?_⟩
  · obtain ⟨hvalid, hmag, hsign, henc⟩ := decEnc_spec (n := l1)
      (decMag l1 (s.value (s.opB b1 d1) l1) * decMag l2 (s.value (s.opB b2 d2) l2))
      (decNeg (s.value (s.opB b1 d1) l1) != decNeg (s.value (s.opB b2 d2) l2)) (by omega)
    obtain ⟨t, ht, hval, hout, hrest⟩ := State.stored_spec 6 ha (by omega) henc
    have hprod : decMag l1 (s.value (s.opB b1 d1) l1) * decMag l2 (s.value (s.opB b2 d2) l2) < 10 ^ (2 * l1 - 1) := by
      have hx := decMag_lt_of_zeros (m := l1 - l2) (by omega) (by omega) hv1
        ((Nat.div_eq_zero_iff_lt (by positivity)).1 hz)
      have hy := decMag_lt hv2
      refine (Nat.mul_lt_mul'' hx hy).trans_le ?_
      rw [← pow_add]
      exact Nat.pow_le_pow_right (by decide) (by omega)
    rw [decimalOfNeg] at hsign
    rw [← hval] at hvalid hmag hsign
    rw [hz] at hmp
    exact ⟨t, hmp.trans ht, hvalid, hmag.trans (Nat.mod_eq_of_lt hprod), hsign, hout, hrest⟩
  · rw [hmp, beq_eq_false_iff_ne.2 hnz, State.require_false]
  · obtain ⟨hvalidQ, hmagQ, hsignQ, hencQ⟩ := decEnc_spec (n := l1 - l2)
      (decMag l1 (s.value (s.opB b1 d1) l1) / decMag l2 (s.value (s.opB b2 d2) l2))
      (decNeg (s.value (s.opB b1 d1) l1) != decNeg (s.value (s.opB b2 d2) l2)) (by omega)
    obtain ⟨hvalidR, hmagR, hsignR, hencR⟩ := decEnc_spec (n := l2)
      (decMag l1 (s.value (s.opB b1 d1) l1) % decMag l2 (s.value (s.opB b2 d2) l2)) (decNeg (s.value (s.opB b1 d1) l1)) h1
    have hfields : divideFields l1 l2 (s.value (s.opB b1 d1) l1) (s.value (s.opB b2 d2) l2) < 256 ^ l1 := by
      rw [divideFields, show 256 ^ l1 = 256 ^ (l1 - l2) * 256 ^ l2 by rw [← pow_add]; congr 1; omega]
      exact Nat.lt_of_lt_of_le (Nat.add_lt_add_left hencR _) (by
        rw [← Nat.succ_mul]
        exact Nat.mul_le_mul_right _ hencQ)
    obtain ⟨t, ht, hval, hout, hrest⟩ := State.stored_spec 6 ha (by omega) hfields
    have hsum := hval
    rw [show t.value (s.opB b1 d1) l1 = t.value (s.opB b1 d1) (l1 - l2 + l2) by congr 1; omega] at hsum
    obtain ⟨hquot, hrem⟩ := State.value_of_two hsum hencR
    rw [decimalOfNeg] at hsignQ
    rw [← hquot] at hvalidQ hmagQ hsignQ
    rw [← hrem] at hvalidR hmagR hsignR
    have hlim : decMag l1 (s.value (s.opB b1 d1) l1) / decMag l2 (s.value (s.opB b2 d2) l2) < decLimit (l1 - l2) := hfit
    rw [bne_iff_ne.2 hnz, decide_eq_true hlim, Bool.and_self, State.require_true] at hdp
    refine ⟨t, hdp.trans ht, hvalidQ, hvalidR, hmagQ.trans (Nat.mod_eq_of_lt hfit), hmagR.trans (Nat.mod_eq_of_lt ?_), hsignQ,
      hsignR, hout, hrest⟩
    exact (Nat.mod_lt _ (Nat.pos_of_ne_zero hnz)).trans (decMag_lt hv2)
  · rw [hdp]
    refine s.require_of_false (and_eq_false_of (hbad.imp (fun h => ?_) fun h => decide_eq_false (Nat.not_lt.2 h))) _ _
    rw [h]
    rfl

/-! ## SRP -/

/-- The right shift rounds the magnitude: the rounding digit is added to the first digit that is lost. -/
theorem srpShift_eq {v b round : Nat} (hb : b < 64) (hr : round ≤ 9) :
    srpShift v b round = if b < 32 then v * 10 ^ b else (v + round * 10 ^ (63 - b)) / 10 ^ (64 - b) := by
  rw [srpShift]
  by_cases h : b < 32
  · rw [if_pos (by omega), if_pos h]
  · rw [if_neg (by omega), if_neg h, show 64 - b = 63 - b + 1 by omega, pow_succ, ← Nat.div_div_eq_div_mul,
      ← Nat.div_div_eq_div_mul, Nat.add_mul_div_right _ _ (by positivity)]
    split <;> omega

/-- A right shift cannot overflow. -/
theorem srpShift_right_lt {v b round n : Nat} (hb : 32 ≤ b) (hb' : b < 64) (hr : round ≤ 9) (hv : v < 10 ^ (n + 1)) :
    (v + round * 10 ^ (63 - b)) / 10 ^ (64 - b) < 10 ^ (n + 1) := by
  have hpos : 0 < 10 ^ n := by positivity
  have hle : v / 10 ^ (63 - b) ≤ v := Nat.div_le_self _ _
  rw [show 64 - b = 63 - b + 1 by omega, pow_succ, ← Nat.div_div_eq_div_mul, Nat.add_mul_div_right _ _ (by positivity)]
  rw [pow_succ] at hv ⊢
  omega

/-- Settles O47: the shifted magnitude with the old sign code. -/
theorem shiftAndRoundDecimal : Obligations.ShiftAndRoundDecimal := by
  intro s l1 b1 d1 b2 d2 i3 p b x v w h1 h1' hp hb hx ha hvalid hi3 hv hw
  have hb64 : b < 64 := hb ▸ Nat.mod_lt _ (by decide)
  rw [← srpShift_eq hb64 hi3] at hw
  have hsign16 : x % 16 < 16 := Nat.mod_lt _ (by decide)
  have hsign10 : 10 ≤ x % 16 := of_decide_eq_true ((Bool.and_eq_true_iff ..).1 hvalid).2
  obtain ⟨hvalid', hmag, hsign, hlt⟩ := packed_spec (n := l1) (m := w % decLimit l1) (c := x % 16) h1 hsign10 hsign16
  obtain ⟨t, ht, hval, hcc, hout, hrest⟩ := State.store_setCc_spec ha (by omega) hlt
    (ccShifted (decide (w < decLimit l1)) (decNeg x) (w % decLimit l1))
  have hexec : exec (.srp l1 b1 d1 b2 d2 i3) s = ((s.store p l1 (digitsOf (2 * l1 - 1) (w % decLimit l1) * 16 + x % 16)).setCc
      (ccShifted (decide (w < decLimit l1)) (decNeg x) (w % decLimit l1))).complete 6
        (s.decimalOverflow (decide (w < decLimit l1))) := by
    subst hp hx hv hb hw
    change execSrp l1 b1 d1 b2 d2 i3 s = _
    rw [execSrp, ha, State.require_true, hvalid, decide_eq_true hi3, Bool.and_self, State.require_true]
  obtain ⟨hfits, hover⟩ := s.complete_decimal ((s.store p l1 (digitsOf (2 * l1 - 1) (w % decLimit l1) * 16 + x % 16)).setCc
    (ccShifted (decide (w < decLimit l1)) (decNeg x) (w % decLimit l1))) (w < decLimit l1)
  rw [ht] at hfits hover
  rw [← hval] at hvalid' hmag hsign
  refine ⟨t, hvalid', hmag.trans (Nat.mod_mod _ _), hsign, hout, hrest, fun h => ⟨hexec.trans (hfits h), ?_⟩,
    fun h => ⟨?_, ?_, hexec.trans (hover (Nat.not_lt.2 h))⟩⟩
  · rw [hcc, ccShifted, decide_eq_true (show w < decLimit l1 from h), Nat.mod_eq_of_lt (show w < decLimit l1 from h)]
    rfl
  · by_contra hge
    obtain ⟨n, hn⟩ : ∃ n, 2 * l1 - 1 = n + 1 := ⟨2 * l1 - 2, by omega⟩
    have hvlt : v < 10 ^ (2 * l1 - 1) := hv ▸ decMag_lt hvalid
    rw [hn] at hvlt h
    have := srpShift_right_lt (Nat.not_lt.1 hge) hb64 hi3 hvlt
    rw [hw, srpShift_eq hb64 hi3, if_neg hge] at h
    omega
  · rw [hcc, decide_eq_false (show ¬ w < decLimit l1 from Nat.not_lt.2 h)]
    rfl

/-! ## CVB and CVD -/

/-- Settles O50: CVB loads the number of its field, CVD stores a field of the register's number. -/
theorem convertBinaryAndDecimal : Obligations.ConvertBinaryAndDecimal := by
  intro s r1 x b d v p hp
  subst hp
  have hcvb (h : s.readAligned (s.opX x b d) 8 = .ok v) : exec (.cvb r1 x b d) s = s.require (decValid 8 v) .data
      ((s.setGr r1 (BitVec.ofInt 32 (decVal 8 v))).complete 4 (if fits32 (decVal 8 v) then none else some .divide)) :=
    State.withOperand_of_ok h _
  refine ⟨fun h hno => ?_, fun h hvalid hlo hhi => ?_, fun h hvalid hout => ?_, fun hm ha => ?_⟩
  · rw [hcvb h, hno, State.require_false]
  · rw [hcvb h, hvalid, State.require_true, (fits32_iff _).2 ⟨hlo, hhi⟩]
    rfl
  · rw [hcvb h, hvalid, State.require_true, fits32_eq_false hout]
    rfl
  · obtain ⟨hvalid, -, hsign, hlt⟩ := decEnc_spec (n := 8) (s.getGr r1).toInt.natAbs (decide ((s.getGr r1).toInt < 0)) (by decide)
    obtain ⟨t, ht, hval, hout, hrest⟩ := State.writeAligned_storesInto 4 hm ha (by decide) hlt
    simp only [decide_eq_true_iff] at hsign
    have hbounds := toInt_bounds (s.getGr r1)
    have hnum := decVal_decEnc (n := 8) (s.getGr r1).toInt (by decide) (by norm_num; omega)
    rw [← hval] at hvalid hsign hnum
    exact ⟨t, ht, hvalid, hnum, hsign, hout, hrest⟩

end Sys2Proof.Machine
end

section
/-! ED and EDMK: the edit as a walk over the source digits, and what the instructions leave. O49 and O48. -/

namespace Sys2Proof.Machine

/-! ## The source digits -/

/-- Half-byte j of operand 2. -/
def State.sourceDigit (s : State) (q : Loc) (j : Nat) : Nibble :=
  if j % 2 = 0 then hiNibble (s.byteAt q (j / 2)) else loNibble (s.byteAt q (j / 2))

/-- Whether half-byte j is followed by a plus sign in its byte. -/
def State.sourcePlus (s : State) (q : Loc) (j : Nat) : Bool :=
  j % 2 == 0 && [(10 : Nibble), 12, 14, 15].contains (loNibble (s.byteAt q (j / 2)))

/-- The half-byte after a digit: a sign is passed over. -/
def State.sourceNext (s : State) (q : Loc) (j : Nat) : Nat :=
  j + if j % 2 = 0 ∧ 10 ≤ (loNibble (s.byteAt q (j / 2))).toNat then 2 else 1

/-- What is pending before half-byte j. -/
def State.sourcePending (s : State) (q : Loc) (j : Nat) : Option Nibble :=
  if j % 2 = 0 then none else some (loNibble (s.byteAt q (j / 2)))

/-- A sign code is a plus sign where it does not mean minus. -/
theorem plus_of_sign (b : Byte) :
    [(10 : Nibble), 12, 14, 15].contains (loNibble b) = (decide (10 ≤ (loNibble b).toNat) && !decNeg b.toNat) := by
  have hlow : b.toNat % 16 = (loNibble b).toNat := (loNibble_toNat b).symm
  rw [decNeg, hlow]
  generalize loNibble b = d
  revert d
  decide

section Digit

variable {s : State} {q : Loc} {e : EditState} {j : Nat}

/-- The next digit, where it can be had. -/
theorem State.editDigit_source (hk : e.k = (j + 1) / 2) (hpend : e.pending = s.sourcePending q j)
    (hok : j % 2 = 0 → s.byteAllowed .read q (j / 2) = true ∧ (s.sourceDigit q j).toNat ≤ 9) :
    s.editDigit q e = .ok (s.sourceDigit q j, s.sourcePlus q j,
      { e with k := (s.sourceNext q j + 1) / 2, pending := s.sourcePending q (s.sourceNext q j) }) := by
  rw [State.editDigit, hpend, State.sourcePending]
  by_cases heven : j % 2 = 0
  · obtain ⟨hread, hdigit⟩ := hok heven
    have hk' : e.k = j / 2 := by omega
    rw [State.sourceDigit, if_pos heven] at hdigit
    simp only [heven, if_true, hk', hread]
    rw [if_neg (by omega), State.sourceDigit, if_pos heven, State.sourcePlus, plus_of_sign, heven, beq_self_eq_true, Bool.true_and,
      State.sourceNext]
    by_cases hsign : 10 ≤ (loNibble (s.byteAt q (j / 2))).toNat
    · rw [if_pos hsign, if_pos ⟨heven, hsign⟩, decide_eq_true hsign, Bool.true_and, State.sourcePending, if_pos (by omega),
        show (j + 2 + 1) / 2 = j / 2 + 1 by omega]
    · rw [if_neg hsign, if_neg fun h => hsign h.2, decide_eq_false hsign, Bool.false_and, State.sourcePending, if_neg (by omega),
        show (j + 1 + 1) / 2 = j / 2 + 1 by omega, show (j + 1) / 2 = j / 2 by omega]
  · have hnext : s.sourceNext q j = j + 1 := by rw [State.sourceNext, if_neg fun h => heven h.1]
    simp only [heven, if_false]
    rw [hnext, State.sourceDigit, if_neg heven, State.sourcePlus, show (j % 2 == 0) = false from beq_eq_false_iff_ne.2 heven,
      Bool.false_and, State.sourcePending, if_pos (by omega), show (j + 1 + 1) / 2 = e.k by omega]

theorem State.editDigit_unreadable (heven : j % 2 = 0) (hk : e.k = (j + 1) / 2) (hpend : e.pending = s.sourcePending q j)
    (h : s.byteAllowed .read q (j / 2) = false) : s.editDigit q e = .error .addressTranslation := by
  rw [State.sourcePending, if_pos heven] at hpend
  simp only [State.editDigit, hpend, show e.k = j / 2 by omega, h, Bool.false_eq_true, if_false]

theorem State.editDigit_invalid (heven : j % 2 = 0) (hk : e.k = (j + 1) / 2) (hpend : e.pending = s.sourcePending q j)
    (hread : s.byteAllowed .read q (j / 2) = true) (h : 9 < (s.sourceDigit q j).toNat) : s.editDigit q e = .error .data := by
  rw [State.sourcePending, if_pos heven] at hpend
  rw [State.sourceDigit, if_pos heven] at h
  simp only [State.editDigit, hpend, show e.k = j / 2 by omega, hread, h, if_true]

end Digit

/-! ## The edit as a walk -/

/-- The result byte for a pattern byte, by the rows of the table of R338. -/
def editedByte (fill m : Byte) (sig : Bool) (d : Nibble) : Byte :=
  if m = 0x20 ∨ m = 0x21 then (if sig = false ∧ d = 0 then fill else nibbles 15 d)
  else if m = 0x22 ∨ sig = false then fill else m

/-- Whether EDMK marks a digit: one that switches significance on. -/
def marksDigit (m : Byte) (sig : Bool) (d : Nibble) : Bool := decide ((m = 0x20 ∨ m = 0x21) ∧ sig = false ∧ d ≠ 0)

/-- The last of the first n places that a test holds of. -/
def lastPlace (c : Nat → Bool) (n : Nat) : Option Nat :=
  match n with
  | 0 => none
  | k + 1 => if c k then some k else lastPlace c k

/-- The number of n bytes. -/
def bytesNumber (b : Nat → Byte) (n : Nat) : Nat :=
  match n with
  | 0 => 0
  | k + 1 => bytesNumber b k * 256 + (b k).toNat

theorem lastPlace_some {c : Nat → Bool} {n i : Nat} (hi : i < n) (hc : c i = true) (hlast : ∀ k, i < k → k < n → c k = false) :
    lastPlace c n = some i := by
  induction n with
  | zero => omega
  | succ n ih =>
    rw [lastPlace]
    obtain hlt | rfl := Nat.lt_succ_iff_lt_or_eq.1 hi
    · rw [hlast n hlt n.lt_succ_self, if_neg Bool.false_ne_true, ih hlt fun k h1 h2 => hlast k h1 (by omega)]
    · rw [hc, if_pos rfl]

theorem lastPlace_none {c : Nat → Bool} {n : Nat} (h : ∀ k < n, c k = false) : lastPlace c n = none := by
  induction n with
  | zero => rfl
  | succ n ih => rw [lastPlace, h n n.lt_succ_self, if_neg Bool.false_ne_true, ih fun k hk => h k (by omega)]

/-- A field that holds the number of n bytes holds these bytes. -/
theorem State.byteAt_of_value {t : State} {p : Loc} {b : Nat → Byte} {n i : Nat} (h : t.value p n = bytesNumber b n) (hi : i < n) :
    t.byteAt p i = b i := by
  rw [← t.ofNat_value_digit p hi, h, ← BitVec.toNat_inj, BitVec.toNat_ofNat]
  exact horner_digit (fun _ => rfl) (fun k => (b k).isLt) hi

/-- What a walk over a pattern tells before each pattern byte: how many half-bytes are used up, the significance indicator, and
whether the field has had a digit other than 0. -/
structure EditRun where
  j : Nat → Nat
  sig : Nat → Bool
  nz : Nat → Bool

section Run

variable (r : EditRun) (s : State) (p q : Loc)

/-- How a walk goes over pattern byte i, R338. -/
def EditRun.Step (i : Nat) : Prop :=
  (s.byteAt p i = 0x20 ∨ s.byteAt p i = 0x21 →
    (r.j i % 2 = 0 → s.byteAllowed .read q (r.j i / 2) = true ∧ (s.sourceDigit q (r.j i)).toNat ≤ 9) ∧
    r.j (i + 1) = s.sourceNext q (r.j i) ∧
    r.sig (i + 1) = (!s.sourcePlus q (r.j i) && (r.sig i || s.sourceDigit q (r.j i) != 0 || s.byteAt p i == 0x21)) ∧
    r.nz (i + 1) = (r.nz i || s.sourceDigit q (r.j i) != 0)) ∧
  (s.byteAt p i = 0x22 → r.j (i + 1) = r.j i ∧ r.sig (i + 1) = false ∧ r.nz (i + 1) = false) ∧
  (s.byteAt p i ∉ [(0x20 : Byte), 0x21, 0x22] → r.j (i + 1) = r.j i ∧ r.sig (i + 1) = r.sig i ∧ r.nz (i + 1) = r.nz i)

/-- The result bytes of a walk. -/
def EditRun.result (i : Nat) : Byte := editedByte (s.byteAt p 0) (s.byteAt p i) (r.sig i) (s.sourceDigit q (r.j i))

/-- The marks of a walk. -/
def EditRun.marked (i : Nat) : Bool := marksDigit (s.byteAt p i) (r.sig i) (s.sourceDigit q (r.j i))

/-- What the edit keeps after n pattern bytes of a walk. -/
def EditRun.stateAt (n : Nat) : EditState :=
  { k := (r.j n + 1) / 2, pending := s.sourcePending q (r.j n), sig := r.sig n, nz := r.nz n,
    mark := lastPlace (r.marked s p q) n, out := bytesNumber (r.result s p q) n }

variable {r s p q}

/-- A digit selector or significance starter goes to the next digit. -/
theorem EditRun.editSelect_stateAt {i : Nat} (hm : s.byteAt p i = 0x20 ∨ s.byteAt p i = 0x21)
    (hj : r.j (i + 1) = s.sourceNext q (r.j i))
    (hsig : r.sig (i + 1) = (!s.sourcePlus q (r.j i) && (r.sig i || s.sourceDigit q (r.j i) != 0 || s.byteAt p i == 0x21)))
    (hnz : r.nz (i + 1) = (r.nz i || s.sourceDigit q (r.j i) != 0)) :
    editSelect (s.byteAt p 0) (s.byteAt p i) i
      { r.stateAt s p q i with
        k := (s.sourceNext q (r.j i) + 1) / 2, pending := s.sourcePending q (s.sourceNext q (r.j i)) }
      (s.sourceDigit q (r.j i)) (s.sourcePlus q (r.j i)) = r.stateAt s p q (i + 1) := by
  have hout : (if (!r.sig i && s.sourceDigit q (r.j i) == 0) = true then s.byteAt p 0 else nibbles 15 (s.sourceDigit q (r.j i))) =
      r.result s p q i := by
    rw [EditRun.result, editedByte, if_pos hm]
    simp only [Bool.and_eq_true, Bool.not_eq_true', beq_iff_eq]
  have hmark : (if (!r.sig i && s.sourceDigit q (r.j i) != 0) = true then some i else lastPlace (r.marked s p q) i) =
      lastPlace (r.marked s p q) (i + 1) := by
    rw [lastPlace, EditRun.marked, marksDigit]
    simp only [Bool.and_eq_true, Bool.not_eq_true', bne_iff_ne, decide_eq_true_iff, hm, true_and]
  rw [Bool.or_assoc, Bool.or_comm (_ != _), ← Bool.or_assoc] at hsig
  change EditState.mk ((s.sourceNext q (r.j i) + 1) / 2) (s.sourcePending q (s.sourceNext q (r.j i)))
    (!s.sourcePlus q (r.j i) && (r.sig i || s.byteAt p i == 0x21 || s.sourceDigit q (r.j i) != 0))
    (r.nz i || s.sourceDigit q (r.j i) != 0)
    (if (!r.sig i && s.sourceDigit q (r.j i) != 0) = true then some i else lastPlace (r.marked s p q) i)
    (bytesNumber (r.result s p q) i * 256 +
      (if (!r.sig i && s.sourceDigit q (r.j i) == 0) = true then s.byteAt p 0 else nibbles 15 (s.sourceDigit q (r.j i))).toNat) = _
  rw [hout, hmark, EditRun.stateAt, hj, hsig, hnz, bytesNumber]

/-- Any other pattern byte leaves the source where it is. -/
theorem EditRun.put_stateAt {i : Nat} (hm : ¬ (s.byteAt p i = 0x20 ∨ s.byteAt p i = 0x21)) {b : Byte} (hb : b = r.result s p q i)
    (hj : r.j (i + 1) = r.j i) :
    { (r.stateAt s p q i).put b with sig := r.sig (i + 1), nz := r.nz (i + 1) } = r.stateAt s p q (i + 1) := by
  have hmark : lastPlace (r.marked s p q) (i + 1) = lastPlace (r.marked s p q) i := by
    rw [lastPlace, EditRun.marked, marksDigit, decide_eq_false fun h => hm h.1, if_neg Bool.false_ne_true]
  simp only [EditState.put, EditRun.stateAt, bytesNumber, hmark, hj, hb]

/-- One pattern byte of a walk. -/
theorem EditRun.editByte_stateAt {i : Nat} (h : r.Step s p q i) :
    s.editByte q (s.byteAt p 0) (s.byteAt p i) i (r.stateAt s p q i) = .ok (r.stateAt s p q (i + 1)) := by
  obtain ⟨hsel, hfield, hother⟩ := h
  rw [State.editByte]
  by_cases hm : s.byteAt p i = 0x20 ∨ s.byteAt p i = 0x21
  · obtain ⟨hok, hj, hsig, hnz⟩ := hsel hm
    rw [if_pos hm, State.editDigit_source (j := r.j i) rfl rfl hok]
    exact congrArg Except.ok (EditRun.editSelect_stateAt hm hj hsig hnz)
  · rw [if_neg hm]
    by_cases hm2 : s.byteAt p i = 0x22
    · obtain ⟨hj, hsig, hnz⟩ := hfield hm2
      have hres : s.byteAt p 0 = r.result s p q i := by rw [EditRun.result, editedByte, if_neg hm, if_pos (.inl hm2)]
      rw [if_pos hm2, ← EditRun.put_stateAt hm hres hj, hsig, hnz]
    · obtain ⟨hj, hsig, hnz⟩ := hother (by simp only [List.mem_cons, List.not_mem_nil, or_false]; tauto)
      have hres : (if (r.stateAt s p q i).sig = true then s.byteAt p i else s.byteAt p 0) = r.result s p q i := by
        change (if r.sig i = true then _ else _) = _
        rw [EditRun.result, editedByte, if_neg hm]
        cases r.sig i with
        | true => rw [if_pos rfl, if_neg fun h => h.elim hm2 Bool.noConfusion]
        | false => rw [if_neg Bool.false_ne_true, if_pos (.inr rfl)]
      rw [if_neg hm2, ← EditRun.put_stateAt hm hres hj, hsig, hnz]
      rfl

theorem EditRun.edit_stateAt {n : Nat} (h0 : r.j 0 = 0 ∧ r.sig 0 = false ∧ r.nz 0 = false) (h : ∀ i < n, r.Step s p q i) :
    s.edit p q n = .ok (r.stateAt s p q n) := by
  induction n with
  | zero =>
    obtain ⟨hj, hsig, hnz⟩ := h0
    rw [State.edit, EditRun.stateAt, hj, hsig, hnz]
    rfl
  | succ n ih =>
    rw [State.edit, ih fun i hi => h i (by omega)]
    exact EditRun.editByte_stateAt (h n n.lt_succ_self)

/-- An error stays an error. -/
theorem State.edit_error {n l : Nat} (hnl : n ≤ l) {k : Interruption} (h : s.edit p q n = .error k) : s.edit p q l = .error k := by
  induction l, hnl using Nat.le_induction with
  | base => exact h
  | succ l _ ih => rw [State.edit, ih]

/-- A walk that ends where the next digit cannot be had. -/
theorem EditRun.edit_stop {n l : Nat} (h0 : r.j 0 = 0 ∧ r.sig 0 = false ∧ r.nz 0 = false) (h : ∀ i < n, r.Step s p q i)
    (hnl : n < l) (hm : s.byteAt p n = 0x20 ∨ s.byteAt p n = 0x21) {k : Interruption}
    (hk : s.editDigit q (r.stateAt s p q n) = .error k) : s.edit p q l = .error k := by
  refine State.edit_error (n := n + 1) hnl ?_
  rw [State.edit, EditRun.edit_stateAt h0 h]
  change s.editByte q (s.byteAt p 0) (s.byteAt p n) n (r.stateAt s p q n) = _
  rw [State.editByte, if_pos hm, hk]

end Run

/-! ## What the instructions leave -/

theorem overlaps_eq_false {p q : Loc} {n m : Nat} (h : ∀ i < n, ∀ k < m, p.key i ≠ q.key k) : overlaps p n q m = false := by
  rw [overlaps, List.any_eq_false]
  intro i hi
  rw [Bool.not_eq_true, List.any_eq_false]
  intro k hk
  rw [Bool.and_eq_true, beq_iff_eq]
  exact fun he => h i (List.mem_range.1 hi) k (List.mem_range.1 hk) he.2

/-- GR1 of EDMK as a number. -/
theorem State.markAddress_toNat (s : State) {p : Loc} (hp : p.amode = s.amode) (i : Nat) :
    (s.markAddress (trunc s.amode (p.addr + BitVec.ofNat 32 i))).toNat =
      (s.getGr 1).toNat / (if s.amode then 2 ^ 31 else 2 ^ 24) * (if s.amode then 2 ^ 31 else 2 ^ 24) + p.at i := by
  have hat : (trunc s.amode (p.addr + BitVec.ofNat 32 i)).toNat = p.at i := by rw [Loc.at, hp]
  have hlt := p.at_lt_mode i
  rw [hp, ← hat] at hlt
  rw [State.markAddress, ← hat]
  cases hm : s.amode with
  | true =>
    rw [hm, if_pos rfl] at hlt
    exact replaceLow_toNat _ _ (n := 31) hlt
  | false =>
    rw [hm, if_neg Bool.false_ne_true] at hlt
    exact replaceLow_toNat _ _ (n := 24) hlt

theorem EditState.cc_eq (e : EditState) : e.cc = if e.nz = false then 0 else if e.sig then 1 else 2 := by
  rw [EditState.cc]
  cases e.nz <;> rfl

theorem State.editDigit_out {s : State} {q : Loc} {e e' : EditState} {d : Nibble} {plus : Bool}
    (h : s.editDigit q e = .ok (d, plus, e')) : e'.out = e.out := by
  unfold State.editDigit at h
  split at h
  · obtain ⟨-, -, rfl⟩ := Except.ok.inj h
    rfl
  · dsimp only at h
    split_ifs at h
    · obtain ⟨-, -, rfl⟩ := Except.ok.inj h
      rfl
    · obtain ⟨-, -, rfl⟩ := Except.ok.inj h
      rfl

/-- Each pattern byte gives one result byte. -/
theorem State.editByte_out {s : State} {q : Loc} {fill m : Byte} {i : Nat} {e e' : EditState}
    (h : s.editByte q fill m i e = .ok e') : ∃ b : Byte, e'.out = e.out * 256 + b.toNat := by
  unfold State.editByte at h
  split_ifs at h with hm hm2
  · cases hd : s.editDigit q e with
    | error k => rw [hd] at h; cases h
    | ok x =>
      obtain ⟨d, plus, e1⟩ := x
      rw [hd] at h
      obtain rfl := Except.ok.inj h
      exact ⟨_, by rw [← State.editDigit_out hd]; rfl⟩
  · obtain rfl := Except.ok.inj h
    exact ⟨_, rfl⟩
  · obtain rfl := Except.ok.inj h
    exact ⟨_, rfl⟩
  · obtain rfl := Except.ok.inj h
    exact ⟨_, rfl⟩

theorem State.edit_out_lt {s : State} {p q : Loc} {n : Nat} {e : EditState} (h : s.edit p q n = .ok e) : e.out < 256 ^ n := by
  induction n generalizing e with
  | zero =>
    obtain rfl := Except.ok.inj h
    exact Nat.one_pos
  | succ n ih =>
    rw [State.edit] at h
    cases hn : s.edit p q n with
    | error k => rw [hn] at h; cases h
    | ok d =>
      rw [hn] at h
      obtain ⟨b, hb⟩ := State.editByte_out h
      have hd := ih hn
      have := b.isLt
      rw [hb, pow_succ]
      omega

section Exec

variable {s : State} {l : Nat} {b1 b2 : Reg} {d1 d2 : Disp} {p q : Loc}

theorem exec_ed_error (hp : p = s.opB b1 d1) (hq : q = s.opB b2 d2) (ha : s.allows .update p l = true) {k : Interruption}
    (h : s.edit p q l = .error k) :
    exec (.ed l b1 d1 b2 d2) s = s.interrupt k ∧ exec (.edmk l b1 d1 b2 d2) s = s.interrupt k := by
  subst hp hq
  exact ⟨State.require_withOperand_error ha h _ _, State.require_withOperand_error ha h _ _⟩

/-- GR1 after EDMK, by the mark of the edit. -/
def State.setMark (s t : State) (p : Loc) (mark : Option Nat) : State :=
  match mark with
  | none => t
  | some i => t.setGr 1 (s.markAddress (trunc s.amode (p.addr + BitVec.ofNat 32 i)))

/-- What EDMK does after the edit. -/
def State.markAfter (s : State) (p : Loc) (isOpen : Bool) (e : EditState) (t : State) : State :=
  if isOpen then t.setGr 1 (Config.freeWord (2 * s.free)) else s.setMark t p e.mark

theorem exec_ed (s : State) (l : Nat) (b1 b2 : Reg) (d1 d2 : Disp) :
    exec (.ed l b1 d1 b2 d2) s = s.editResult (s.opB b1 d1) (s.opB b2 d2) l fun _ _ t => t := rfl

theorem exec_edmk (s : State) (l : Nat) (b1 b2 : Reg) (d1 d2 : Disp) :
    exec (.edmk l b1 d1 b2 d2) s = s.editResult (s.opB b1 d1) (s.opB b2 d2) l (s.markAfter (s.opB b1 d1)) := rfl

theorem State.editResult_ok (ha : s.allows .update p l = true) {e : EditState} (h : s.edit p q l = .ok e)
    (after : Bool → EditState → State → State) : s.editResult p q l after =
      if overlaps p l q e.k then (after true e (((s.storeFree p l).setCc (Config.freeCc s.free)).useFree)).finish 6
      else (after false e ((s.store p l e.out).setCc e.cc)).finish 6 := by
  rw [State.editResult, ha, State.require_true, State.withOperand_of_ok h]

theorem exec_ed_ok (hp : p = s.opB b1 d1) (hq : q = s.opB b2 d2) (ha : s.allows .update p l = true) {e : EditState}
    (h : s.edit p q l = .ok e) (hov : overlaps p l q e.k = false) :
    exec (.ed l b1 d1 b2 d2) s = ((s.store p l e.out).setCc e.cc).finish 6 ∧
      exec (.edmk l b1 d1 b2 d2) s = (s.setMark ((s.store p l e.out).setCc e.cc) p e.mark).finish 6 := by
  subst hp hq
  rw [exec_ed, exec_edmk, State.editResult_ok ha h, State.editResult_ok ha h, hov]
  exact ⟨rfl, rfl⟩

theorem exec_ed_open (hp : p = s.opB b1 d1) (hq : q = s.opB b2 d2) (ha : s.allows .update p l = true) {e : EditState}
    (h : s.edit p q l = .ok e) (hov : overlaps p l q e.k = true) :
    exec (.ed l b1 d1 b2 d2) s = (((s.storeFree p l).setCc (Config.freeCc s.free)).useFree).finish 6 ∧
      exec (.edmk l b1 d1 b2 d2) s =
        ((((s.storeFree p l).setCc (Config.freeCc s.free)).useFree).setGr 1 (Config.freeWord (2 * s.free))).finish 6 := by
  subst hp hq
  rw [exec_ed, exec_edmk, State.editResult_ok ha h, State.editResult_ok ha h, hov]
  exact ⟨rfl, rfl⟩

/-- What EDMK leaves where ED leaves t: the same but for GR1. -/
theorem State.setMark_spec (s : State) {t : State} (hgr : t.gr = s.gr) (hp : p.amode = s.amode) (mark : Option Nat) :
    { (s.setMark t p mark).advance 6 with gr := s.gr } = t.advance 6 ∧
      (∀ r, r ≠ 1 → ((s.setMark t p mark).advance 6).getGr r = s.getGr r) ∧
      (mark = none → ((s.setMark t p mark).advance 6).getGr 1 = s.getGr 1) ∧
      ∀ i, mark = some i → (((s.setMark t p mark).advance 6).getGr 1).toNat =
        (s.getGr 1).toNat / (if s.amode then 2 ^ 31 else 2 ^ 24) * (if s.amode then 2 ^ 31 else 2 ^ 24) + p.at i := by
  have hget (r : Reg) : t.getGr r = s.getGr r := by rw [State.getGr, State.getGr, hgr]
  rw [← hgr]
  cases mark with
  | none => exact ⟨rfl, fun r _ => hget r, fun _ => hget 1, nofun⟩
  | some i =>
    refine ⟨rfl, fun r hr => ?_, nofun, fun k hk => ?_⟩
    · exact (t.setGr_getGr 1 r _).trans ((if_neg hr).trans (hget r))
    · obtain rfl := Option.some.inj hk
      rw [← s.markAddress_toNat hp]
      exact congrArg BitVec.toNat ((t.setGr_getGr 1 1 _).trans (if_pos rfl))

/-- ED and EDMK where no source byte lies in the pattern. -/
theorem edit_spec (hp : p = s.opB b1 d1) (hq : q = s.opB b2 d2) (hl : l ≤ 256) (ha : s.allows .update p l = true) {e : EditState}
    (h : s.edit p q l = .ok e) (hov : overlaps p l q e.k = false) :
    ∃ t u, exec (.ed l b1 d1 b2 d2) s = .next t ∧ exec (.edmk l b1 d1 b2 d2) s = .next u ∧ t.value p l = e.out ∧
      t.cc = (if e.nz = false then 0 else if e.sig then 1 else 2) ∧ s.SameOutside t p l ∧
      { t with mem := s.mem, cc := s.cc } = s.advance 6 ∧ { u with gr := s.gr } = t ∧ (∀ r, r ≠ 1 → u.getGr r = s.getGr r) ∧
      (e.mark = none → u.getGr 1 = s.getGr 1) ∧
      ∀ i, e.mark = some i → (u.getGr 1).toNat =
        (s.getGr 1).toNat / (if s.amode then 2 ^ 31 else 2 ^ 24) * (if s.amode then 2 ^ 31 else 2 ^ 24) + p.at i := by
  obtain ⟨hed, hedmk⟩ := exec_ed_ok hp hq ha h hov
  obtain ⟨t, ht, hval, hcc, hout, hrest⟩ := State.store_setCc_spec ha (by omega) (State.edit_out_lt h) e.cc
  have hgr : ((s.store p l e.out).setCc e.cc).gr = s.gr := by rw [State.store_eq]; rfl
  obtain ⟨hu, hother, hnone, hsome⟩ := s.setMark_spec (p := p) hgr (by rw [hp]; rfl) e.mark
  rw [ht] at hu
  exact ⟨t, _, hed.trans (congrArg Host.Outcome.next ht), hedmk, hval, hcc.trans e.cc_eq, hout, hrest, hu, hother, hnone, hsome⟩

/-- ED and EDMK where a source byte lies in the pattern: free values. -/
theorem edit_open_spec (hp : p = s.opB b1 d1) (hq : q = s.opB b2 d2) (ha : s.allows .update p l = true) {e : EditState}
    (h : s.edit p q l = .ok e) (hov : overlaps p l q e.k = true) :
    ∃ t u, exec (.ed l b1 d1 b2 d2) s = .next t ∧ exec (.edmk l b1 d1 b2 d2) s = .next u ∧ s.SameOutside t p l ∧
      s.SameOutside u p l ∧ (∀ r, r ≠ 1 → u.getGr r = s.getGr r) ∧
      { t with mem := s.mem, cc := s.cc, free := s.free } = s.advance 6 ∧
      { u with mem := s.mem, cc := s.cc, free := s.free, gr := s.gr } = s.advance 6 := by
  obtain ⟨hed, hedmk⟩ := exec_ed_open hp hq ha h hov
  have hfill := s.storeFree_fills p l
  have honly : s.OnlyMem (s.storeFree p l) := hfill.onlyMem le_rfl
  have hout : s.SameOutside (s.storeFree p l) p l := hfill.sameOutside (fun _ h => h) le_rfl
  generalize s.storeFree p l = v at hed hedmk honly hout
  refine ⟨_, _, hed, hedmk, hout, hout, fun r hr => ?_, ?_, ?_⟩
  · refine (State.setGr_getGr ((v.setCc (Config.freeCc s.free)).useFree) 1 r _).trans ((if_neg hr).trans ?_)
    exact honly.getGr r
  · rw [show v = _ from honly]
    rfl
  · rw [show v = _ from honly]
    rfl

end Exec

/-- Settles O49: the edit follows the walk over the source digits. -/
theorem editOfAnyPattern : Obligations.EditOfAnyPattern := by
  intro s l b1 d1 b2 d2 p q a hl1 hl hp hq ha haddr
  subst haddr
  refine ⟨fun n j sig nz plus g m b hn hm hb hg hplus hj0 hsig0 hnz0 hstep => ?_, fun k hk => exec_ed_error hp hq ha hk,
    fun e he => ?_⟩
  · subst hm hb hg hplus
    have hsteps : ∀ i < n, (EditRun.mk j sig nz).Step s p q i := hstep
    have h0 : (EditRun.mk j sig nz).j 0 = 0 ∧ (EditRun.mk j sig nz).sig 0 = false ∧ (EditRun.mk j sig nz).nz 0 = false :=
      ⟨hj0, hsig0, hnz0⟩
    refine ⟨fun hlt hsel heven => ⟨fun hno => ?_, fun hread hdig => ?_⟩, fun hnl hdis => ?_⟩
    · exact exec_ed_error hp hq ha (EditRun.edit_stop h0 hsteps hlt hsel (State.editDigit_unreadable heven rfl rfl hno))
    · exact exec_ed_error hp hq ha (EditRun.edit_stop h0 hsteps hlt hsel (State.editDigit_invalid heven rfl rfl hread hdig))
    · subst hnl
      obtain ⟨t, u, hed, hedmk, hval, hcc, hout, hrest, hu, hother, hnone, hsome⟩ :=
        edit_spec hp hq hl ha (EditRun.edit_stateAt h0 hsteps) (overlaps_eq_false hdis)
      refine ⟨t, u, hed, hedmk, fun i hi => State.byteAt_of_value hval hi, hcc, hout, hrest, hu, hother, fun i hi hmark hlast => ?_,
        fun hno => hnone (lastPlace_none fun k hk => decide_eq_false (hno k hk))⟩
      exact hsome i (lastPlace_some hi (decide_eq_true hmark) fun k h1 h2 => decide_eq_false (hlast k h1 h2))
  · cases hov : overlaps p l q e.k with
    | true =>
      obtain ⟨t, u, hed, hedmk, hout, hout', hother, ht, hu⟩ := edit_open_spec hp hq ha he hov
      exact ⟨t, u, hed, hedmk, fun h => absurd h Bool.true_eq_false.mp, hout, hout', hother, ht, hu⟩
    | false =>
      obtain ⟨t, u, hed, hedmk, hval, hcc, hout, hrest, hu, hother, hnone, hsome⟩ := edit_spec hp hq hl ha he hov
      have hmem := congrArg State.mem hu
      have hcc' := congrArg State.cc hu
      have hfree' := congrArg State.free hrest
      change u.mem = t.mem at hmem
      have hfree : { t with mem := s.mem, cc := s.cc, free := s.free } = s.advance 6 :=
        congrArg (fun v : State => { v with free := s.free }) hrest
      have hufree : { u with mem := s.mem, cc := s.cc, free := s.free, gr := s.gr } = s.advance 6 :=
        (congrArg (fun v : State => { v with mem := s.mem, cc := s.cc, free := s.free }) hu).trans hfree
      refine ⟨t, u, hed, hedmk, fun _ => ⟨hval, hcc, hfree', hmem, hcc', hnone, hsome⟩, hout,
        fun k hk => ?_, hother, hfree, hufree⟩
      rw [hmem]
      exact hout k hk

/-! ## One number -/

theorem digitsVal_eq_zero_iff {n v : Nat} (hv : v < 16 ^ n) : digitsVal n v = 0 ↔ v = 0 := by
  induction n generalizing v with
  | zero =>
    rw [pow_zero] at hv
    exact ⟨fun _ => by omega, fun _ => rfl⟩
  | succ n ih =>
    rw [pow_succ] at hv
    have := ih (v := v / 16) (by omega)
    rw [digitsVal]
    omega

theorem digitsOk_digit {n v i : Nat} (h : digitsOk n v = true) (hi : i < n) : v / 16 ^ i % 16 ≤ 9 := by
  induction n generalizing v i with
  | zero => omega
  | succ n ih =>
    obtain ⟨hdigit, hrest⟩ := (Bool.and_eq_true_iff ..).1 h
    cases i with
    | zero => rw [pow_zero, Nat.div_one]; exact of_decide_eq_true hdigit
    | succ i =>
      rw [pow_succ', ← Nat.div_div_eq_div_mul]
      exact ih hrest (by omega)

/-- Half-byte j of a field. -/
theorem State.sourceDigit_value (s : State) (q : Loc) {n j : Nat} (hj : j < 2 * n) :
    (s.sourceDigit q j).toNat = s.value q n / 16 ^ (2 * n - 1 - j) % 16 := by
  have hbyte := s.value_digit q (n := n) (i := j / 2) (by omega)
  rw [State.sourceDigit]
  obtain ⟨a, rfl | rfl⟩ := j.even_or_odd'
  · rw [if_pos (by omega), hiNibble_toNat, ← hbyte, show 2 * n - 1 - 2 * a = 2 * (n - 1 - 2 * a / 2) + 1 by omega,
      div_pow_sixteen_odd]
  · rw [if_neg (by omega), loNibble_toNat, ← hbyte, show 2 * n - 1 - (2 * a + 1) = 2 * (n - 1 - (2 * a + 1) / 2) by omega,
      div_pow_sixteen_even]

/-- The walk over a fill character and the selectors of one number. -/
def oneNumberRun (n x : Nat) : EditRun where
  j i := if i = 0 then 0 else if i < 2 * n then i - 1 else 2 * n
  sig i := decide (0 < i ∧ x / 16 ^ (2 * n + 1 - i) ≠ 0 ∧ (i < 2 * n ∨ decNeg x = true))
  nz i := decide (0 < i ∧ x / 16 ^ (2 * n + 1 - i) ≠ 0)

/-- The right neighbour of a left half-byte. -/
theorem State.loNibble_value (s : State) (q : Loc) {n k : Nat} (hk : k < 2 * n) (heven : k % 2 = 0) :
    (loNibble (s.byteAt q (k / 2))).toNat = s.value q n / 16 ^ (2 * n - 2 - k) % 16 := by
  have h := s.sourceDigit_value q (n := n) (j := k + 1) (by omega)
  rw [State.sourceDigit, if_neg (by omega), show (k + 1) / 2 = k / 2 by omega, show 2 * n - 1 - (k + 1) = 2 * n - 2 - k by omega] at h
  exact h

theorem decNeg_mod (v : Nat) : decNeg (v % 256) = decNeg v := by
  rw [decNeg, decNeg, Nat.mod_mod_of_dvd _ (by decide)]

section OneNumber

variable {s : State} {q : Loc} {n : Nat}

/-- Among the digits of a correct number no sign is met before the last one. -/
theorem State.source_inside (hvalid : decValid n (s.value q n) = true) {k : Nat} (hk : k + 2 < 2 * n) :
    s.sourceNext q k = k + 1 ∧ s.sourcePlus q k = false := by
  have hdigit (heven : k % 2 = 0) : ¬ 10 ≤ (loNibble (s.byteAt q (k / 2))).toNat := by
    have hok := digitsOk_digit (i := 2 * n - 3 - k) ((Bool.and_eq_true_iff ..).1 hvalid).1 (by omega)
    rw [Nat.div_div_eq_div_mul, ← pow_succ', show 2 * n - 3 - k + 1 = 2 * n - 2 - k by omega] at hok
    rw [s.loNibble_value q (n := n) (by omega) heven]
    omega
  refine ⟨?_, ?_⟩
  · rw [State.sourceNext, if_neg fun h => hdigit h.1 h.2]
  · rw [State.sourcePlus, plus_of_sign]
    by_cases heven : k % 2 = 0
    · rw [decide_eq_false (hdigit heven), Bool.false_and, Bool.and_false]
    · rw [beq_eq_false_iff_ne.2 heven, Bool.false_and]

/-- The last digit of a correct number is followed by its sign. -/
theorem State.source_last (hn : 1 ≤ n) (hvalid : decValid n (s.value q n) = true) :
    s.sourceNext q (2 * n - 2) = 2 * n ∧ s.sourcePlus q (2 * n - 2) = !decNeg (s.value q n) := by
  have hsign : 10 ≤ (loNibble (s.byteAt q ((2 * n - 2) / 2))).toNat := by
    rw [s.loNibble_value q (n := n) (by omega) (by omega), Nat.sub_self, pow_zero, Nat.div_one]
    exact of_decide_eq_true ((Bool.and_eq_true_iff ..).1 hvalid).2
  have hlast := s.value_digit q (n := n) (i := (2 * n - 2) / 2) (by omega)
  rw [show n - 1 - (2 * n - 2) / 2 = 0 by omega, pow_zero, Nat.div_one] at hlast
  refine ⟨?_, ?_⟩
  · rw [State.sourceNext, if_pos ⟨by omega, hsign⟩]
    omega
  · rw [State.sourcePlus, plus_of_sign, decide_eq_true hsign, ← hlast, decNeg_mod, beq_iff_eq.2 (show (2 * n - 2) % 2 = 0 by omega),
      Bool.true_and, Bool.true_and]

theorem div_pow_succ_eq_zero_iff (x m : Nat) : x / 16 ^ m = 0 ↔ x / 16 ^ (m + 1) = 0 ∧ x / 16 ^ m % 16 = 0 := by
  rw [pow_succ, ← Nat.div_div_eq_div_mul]
  omega

/-- Where the walk over one number begins. -/
theorem oneNumberRun_zero (n x : Nat) :
    (oneNumberRun n x).j 0 = 0 ∧ (oneNumberRun n x).sig 0 = false ∧ (oneNumberRun n x).nz 0 = false :=
  ⟨rfl, rfl, rfl⟩

/-- What the walk over one number tells before and after a selector. -/
theorem oneNumberRun_at {x i : Nat} (hpos : 0 < i) (hi : i < 2 * n) :
    (oneNumberRun n x).j i = i - 1 ∧ (oneNumberRun n x).sig i = decide (x / 16 ^ (2 * n - i + 1) ≠ 0) ∧
      (oneNumberRun n x).nz i = decide (x / 16 ^ (2 * n - i + 1) ≠ 0) ∧
      (oneNumberRun n x).j (i + 1) = (if i + 1 < 2 * n then i else 2 * n) ∧
      (oneNumberRun n x).sig (i + 1) = decide (x / 16 ^ (2 * n - i) ≠ 0 ∧ (i + 1 < 2 * n ∨ decNeg x = true)) ∧
      (oneNumberRun n x).nz (i + 1) = decide (x / 16 ^ (2 * n - i) ≠ 0) := by
  simp only [oneNumberRun, hpos.ne', hi, hpos, i.succ_pos, i.succ_ne_zero, if_true, if_false, true_and, true_or, and_true,
    Nat.add_sub_cancel, show 2 * n + 1 - i = 2 * n - i + 1 by omega, show 2 * n + 1 - (i + 1) = 2 * n - i by omega]

/-- The walk over one number meets the table. -/
theorem oneNumberRun_step {p : Loc} (hn : 1 ≤ n) (hvalid : decValid n (s.value q n) = true) (hr : s.allows .read q n = true)
    (hsel : ∀ i, 1 ≤ i → i < 2 * n → s.byteAt p i = 0x20) (hfill : s.byteAt p 0 ∉ [(0x20 : Byte), 0x21, 0x22]) {i : Nat} (hi : i < 2 * n) :
    (oneNumberRun n (s.value q n)).Step s p q i := by
  obtain rfl | hpos := Nat.eq_zero_or_pos i
  · have hzero : s.value q n / 16 ^ (2 * n + 1 - (0 + 1)) = 0 := by
      refine Nat.div_eq_of_lt ?_
      rw [show 2 * n + 1 - (0 + 1) = 2 * n by omega, pow_mul]
      exact s.value_lt q n
    obtain ⟨hj, hsig, hnz⟩ := oneNumberRun_zero n (s.value q n)
    rw [EditRun.Step, hj, hsig, hnz]
    refine ⟨fun h => absurd ?_ hfill, fun h => absurd ?_ hfill, fun _ => ⟨?_, ?_, ?_⟩⟩
    · obtain h | h := h <;> simp [h]
    · simp [h]
    · simp only [oneNumberRun, show 0 + 1 < 2 * n by omega, if_true, if_false, Nat.succ_ne_zero, Nat.add_sub_cancel]
    · exact decide_eq_false fun h => h.2.1 hzero
    · exact decide_eq_false fun h => h.2 hzero
  · have h20 := hsel i hpos hi
    obtain ⟨hj, hsig, hnz, hj', hsig', hnz'⟩ := oneNumberRun_at (n := n) (x := s.value q n) hpos hi
    have hdigit := s.sourceDigit_value q (n := n) (j := i - 1) (by omega)
    rw [show 2 * n - 1 - (i - 1) = 2 * n - i by omega] at hdigit
    have hzero : (s.sourceDigit q (i - 1) != 0) = decide (s.value q n / 16 ^ (2 * n - i) % 16 ≠ 0) := by
      rw [Bool.eq_iff_iff, bne_iff_ne, decide_eq_true_iff, ← hdigit, ne_eq, ne_eq, ← BitVec.toNat_inj]
      rfl
    have hsplit := div_pow_succ_eq_zero_iff (s.value q n) (2 * n - i)
    have hsource : s.sourceNext q (i - 1) = (if i + 1 < 2 * n then i else 2 * n) ∧
        s.sourcePlus q (i - 1) = decide (¬ (i + 1 < 2 * n ∨ decNeg (s.value q n) = true)) := by
      by_cases hin : i + 1 < 2 * n
      · obtain ⟨hnext, hplus⟩ := State.source_inside hvalid (k := i - 1) (by omega)
        exact ⟨by rw [hnext, if_pos hin]; omega, by rw [hplus, decide_eq_false (not_not.2 (.inl hin))]⟩
      · obtain ⟨hnext, hplus⟩ := State.source_last (q := q) hn hvalid
        rw [show i - 1 = 2 * n - 2 by omega, hnext, hplus, if_neg hin]
        refine ⟨rfl, ?_⟩
        cases decNeg (s.value q n) <;> simp [hin]
    obtain ⟨hnext, hplus⟩ := hsource
    refine ⟨fun _ => ?_, fun h => absurd (h20.symm.trans h) (by decide), fun h => absurd (by simp [h20]) h⟩
    rw [hj, hsig, hnz, hj', hsig', hnz', hnext, hplus, hzero, h20]
    refine ⟨fun heven => ⟨(State.allows_iff ..).1 hr _ (by omega), ?_⟩, rfl, ?_, ?_⟩
    · have hok := digitsOk_digit (i := 2 * n - i - 1) ((Bool.and_eq_true_iff ..).1 hvalid).1 (by omega)
      rw [Nat.div_div_eq_div_mul, ← pow_succ', show 2 * n - i - 1 + 1 = 2 * n - i by omega] at hok
      rw [hdigit]
      exact hok
    · rw [Bool.eq_iff_iff]
      simp only [decide_eq_true_iff, Bool.and_eq_true, Bool.or_eq_true, Bool.not_eq_true', decide_eq_false_iff_not, not_not,
        beq_iff_eq, show ¬ ((0x20 : Byte) = 0x21) by decide, or_false]
      rw [ne_eq, hsplit, not_and_or, and_comm]
    · rw [Bool.eq_iff_iff]
      simp only [decide_eq_true_iff, Bool.or_eq_true]
      rw [ne_eq, hsplit, not_and_or]

/-- Whether the digit that selector i takes is a leading zero. -/
theorem oneNumberRun_leading {i : Nat} (hpos : 0 < i) (hi : i < 2 * n) :
    ((oneNumberRun n (s.value q n)).sig i = false ∧ s.sourceDigit q ((oneNumberRun n (s.value q n)).j i) = 0) ↔
      s.value q n / 16 ^ (2 * n - i) = 0 := by
  obtain ⟨hj, hsig, -⟩ := oneNumberRun_at (n := n) (x := s.value q n) hpos hi
  have hdigit := s.sourceDigit_value q (n := n) (j := i - 1) (by omega)
  rw [show 2 * n - 1 - (i - 1) = 2 * n - i by omega] at hdigit
  rw [hj, hsig, decide_eq_false_iff_not, not_not, ← BitVec.toNat_inj, hdigit]
  exact (div_pow_succ_eq_zero_iff ..).symm

/-- What a selector becomes. -/
theorem editedByte_oneNumber (fill : Byte) {i : Nat} (hpos : 0 < i) (hi : i < 2 * n) :
    (if (oneNumberRun n (s.value q n)).sig i = false ∧ s.sourceDigit q ((oneNumberRun n (s.value q n)).j i) = 0 then fill
      else nibbles 15 (s.sourceDigit q ((oneNumberRun n (s.value q n)).j i))) =
    if s.value q n / 16 ^ (2 * n - i) = 0 then fill else BitVec.ofNat 8 (0xF0 + s.value q n / 16 ^ (2 * n - i) % 16) := by
  have hdigit := s.sourceDigit_value q (n := n) (j := i - 1) (by omega)
  rw [show 2 * n - 1 - (i - 1) = 2 * n - i by omega] at hdigit
  have hbyte : nibbles 15 (s.sourceDigit q (i - 1)) = BitVec.ofNat 8 (0xF0 + s.value q n / 16 ^ (2 * n - i) % 16) := by
    refine BitVec.eq_of_toNat_eq ?_
    rw [nibbles_toNat, hdigit, BitVec.toNat_ofNat, show (15 : Nibble).toNat = 15 from rfl]
    omega
  rw [if_congr (oneNumberRun_leading hpos hi) rfl rfl, (oneNumberRun_at hpos hi).1, hbyte]

end OneNumber

/-- Settles O48: the walk over one number, by the statement about any pattern. -/
theorem editOneNumber : Obligations.EditOneNumber := by
  intro s n b1 d1 b2 d2 p q x hn hn' hp hq hx hvalid ha hr hdis hsel hfill
  subst hx
  obtain ⟨hwalk, -, -⟩ := editOfAnyPattern s (2 * n) b1 d1 b2 d2 p q _ (by omega) (by omega) hp hq ha rfl
  have hlast : (oneNumberRun n (s.value q n)).j (2 * n) = 2 * n := by
    simp only [oneNumberRun, show 2 * n ≠ 0 by omega, lt_irrefl, if_false]
  obtain ⟨-, hend⟩ := hwalk (2 * n) (oneNumberRun n (s.value q n)).j (oneNumberRun n (s.value q n)).sig
    (oneNumberRun n (s.value q n)).nz _ _ _ _ le_rfl rfl rfl rfl rfl rfl rfl rfl
    fun i hi => oneNumberRun_step hn hvalid hr hsel hfill hi
  obtain ⟨t, u, hed, hedmk, hbytes, hcc, hout, hrest, hu, hother, hmark, hno⟩ := hend rfl fun i hi k hk => hdis i hi k (by omega)
  have hmag : decMag n (s.value q n) = 0 ↔ s.value q n / 16 = 0 := digitsVal_eq_zero_iff (by
    have := s.value_lt q n
    rw [show 256 ^ n = 16 ^ (2 * n - 1) * 16 by rw [← pow_succ, show 2 * n - 1 + 1 = 2 * n by omega, pow_mul]; rfl] at this
    omega)
  have hselect (h : s.byteAt p 0 = 0x20 ∨ s.byteAt p 0 = 0x21) : False := hfill (by obtain h | h := h <;> simp [h])
  have hzero {i j : Nat} (hij : i ≤ j) (h : s.value q n / 16 ^ i = 0) : s.value q n / 16 ^ j = 0 :=
    Nat.eq_zero_of_le_zero (h ▸ Nat.div_le_div_left (Nat.pow_le_pow_right (by decide) hij) (by positivity))
  refine ⟨t, u, hed, hedmk, ?_, fun i hpos hi => ?_, ?_, hout, hrest, hu, hother, fun h => ?_, fun i hpos hi h h' => ?_⟩
  · rw [hbytes 0 (by omega), if_neg hselect, if_pos (.inr rfl)]
  · rw [hbytes i hi, if_pos (.inl (hsel i hpos hi))]
    exact editedByte_oneNumber _ hpos hi
  · have hnz : (oneNumberRun n (s.value q n)).nz (2 * n) = decide (decMag n (s.value q n) ≠ 0) := by
      simp only [oneNumberRun, show 0 < 2 * n by omega, Nat.add_sub_cancel_left, pow_one, true_and, ne_eq, hmag]
    have hsig : (oneNumberRun n (s.value q n)).sig (2 * n) =
        decide (decMag n (s.value q n) ≠ 0 ∧ decNeg (s.value q n) = true) := by
      simp only [oneNumberRun, show 0 < 2 * n by omega, Nat.add_sub_cancel_left, pow_one, true_and, lt_irrefl, false_or, ne_eq, hmag]
    rw [hcc, hnz, hsig]
    by_cases hz : decMag n (s.value q n) = 0 <;> simp [hz]
  · refine hno fun k hk ⟨hm, hsig, hg⟩ => ?_
    obtain rfl | hpos := Nat.eq_zero_or_pos k
    · exact hselect hm
    · exact hg ((oneNumberRun_leading hpos hk).2 (hzero (i := 1) (by omega) (by rw [pow_one]; exact hmag.1 h))).2
  · have hsig {k : Nat} (hk : k < 2 * n) (hkpos : 0 < k) :
        (oneNumberRun n (s.value q n)).sig k = decide (s.value q n / 16 ^ (2 * n - k + 1) ≠ 0) := (oneNumberRun_at hkpos hk).2.1
    have hfirst : s.value q n / 16 ^ (2 * n - i + 1) = 0 := by
      rw [pow_succ, ← Nat.div_div_eq_div_mul]
      exact Nat.div_eq_of_lt h'
    have hsig0 := (hsig hi hpos).trans (decide_eq_false (not_not.2 hfirst))
    refine hmark i hi ⟨.inl (hsel i hpos hi), hsig0, fun hg => h ((oneNumberRun_leading hpos hi).1 ⟨hsig0, hg⟩)⟩
      fun k hik hk ⟨_, hs, _⟩ => h ?_
    exact hzero (by omega) (not_not.1 (of_decide_eq_false ((hsig hk (by omega)).symm.trans hs)))

end Sys2Proof.Machine
end

section
/-! Hexadecimal floating-point numbers as rationals, and what the algorithms on them deliver. O52, O55 and O56. -/

namespace Sys2Proof.Machine

/-! ## Units and values -/

theorem lastDigit_pos (n : Nat) (c : ℤ) : 0 < lastDigit n c := zpow_pos (by norm_num) _

/-- A characteristic greater by k makes the unit 16^k times as great. -/
theorem lastDigit_add (n : Nat) (c : ℤ) (k : Nat) : lastDigit n (c + k) = 16 ^ k * lastDigit n c := by
  rw [lastDigit, lastDigit, ← zpow_natCast, ← zpow_add₀ (by norm_num)]
  congr 1
  ring

/-- With k digits more the unit is 16^k times as small. -/
theorem lastDigit_digits (n : Nat) (c : ℤ) (k : Nat) : lastDigit n c = 16 ^ k * lastDigit (n + k) c := by
  rw [lastDigit, lastDigit, ← zpow_natCast, ← zpow_add₀ (by norm_num)]
  congr 1
  push_cast
  ring

theorem lastDigit_mul (n : Nat) (c d : ℤ) : lastDigit n c * lastDigit n d = lastDigit (2 * n) (c + d - 64) := by
  rw [lastDigit, lastDigit, lastDigit, ← zpow_add₀ (by norm_num)]
  congr 1
  push_cast
  ring

theorem lastDigit_mono (n : Nat) {c d : ℤ} (h : c ≤ d) : lastDigit n c ≤ lastDigit n d :=
  zpow_le_zpow_right₀ (by norm_num) (by omega)

theorem FNum.value_eq (n : Nat) (x : FNum) : x.value n = (if x.neg then -1 else 1) * (x.man * lastDigit n x.chr) := mul_assoc ..

theorem abs_sign_mul (b : Bool) (q : ℚ) : |(if b then -1 else 1) * q| = |q| := by
  cases b
  · rw [if_neg Bool.false_ne_true, one_mul]
  · rw [if_pos rfl, neg_one_mul, abs_neg]

theorem FNum.abs_value (n : Nat) (x : FNum) : |x.value n| = x.man * lastDigit n x.chr := by
  rw [FNum.value_eq, abs_sign_mul, abs_of_nonneg (mul_nonneg (Nat.cast_nonneg _) (lastDigit_pos ..).le)]

theorem FNum.value_eq_abs (n : Nat) (x : FNum) : x.value n = (if x.neg then -1 else 1) * |x.value n| := by
  rw [FNum.abs_value, FNum.value_eq]

/-- Deliver of the model is what the statements call delivered. -/
theorem deliver_eq (mu neg : Bool) (c : ℤ) (m : Nat) :
    deliver mu neg c m = ({ neg := neg, chr := c, man := m } : FNum).delivered mu := rfl

/-- A number delivered without an interruption is the number itself. -/
theorem FNum.of_delivered {mu : Bool} {r u : FNum} (h : r.delivered mu = { value := some u, exc := none }) :
    u = r ∧ 0 ≤ r.chr ∧ r.chr ≤ 127 := by
  rw [FNum.delivered] at h
  split_ifs at h with h127 h0 hmu
  · exact absurd (congrArg FOut.exc h) (by simp)
  · exact absurd (congrArg FOut.exc h) (by simp)
  · exact absurd (congrArg FOut.value h) (by simp)
  · exact ⟨(Option.some.inj (congrArg FOut.value h)).symm, by omega, by omega⟩

/-! ## Cutting digits off -/

/-- What is left of t units after its last digits are cut off. -/
theorem cut_le (t : Nat) {d : Nat} {u : ℚ} (hd : 0 < d) (hu : 0 < u) :
    ((t / d : Nat) : ℚ) * (d * u) ≤ t * u ∧ t * u - ((t / d : Nat) : ℚ) * (d * u) ≤ d * u - u := by
  have hsplit : (t : ℚ) = d * ((t / d : Nat) : ℚ) + ((t % d : Nat) : ℚ) := by
    exact_mod_cast (Nat.div_add_mod t d).symm
  have hrem : ((t % d : Nat) : ℚ) + 1 ≤ d := by exact_mod_cast Nat.mod_lt t hd
  have hrem0 : (0 : ℚ) ≤ ((t % d : Nat) : ℚ) := Nat.cast_nonneg _
  refine ⟨?_, ?_⟩ <;> nlinarith

/-- Normalization multiplies by a power of 16 and takes as many from the characteristic. -/
theorem normalize_spec {limit m : Nat} (k : Nat) (c : ℤ) (hm : limit ≤ m * 16 ^ k) :
    ∃ j : Nat, normalize k limit c m = (c - (j : ℤ), m * 16 ^ j) ∧ limit ≤ m * 16 ^ j ∧ (j = 0 ∨ m * 16 ^ j < 16 * limit) := by
  induction k generalizing c m with
  | zero => exact ⟨0, by rw [normalize, Nat.cast_zero, sub_zero, pow_zero, mul_one], hm, .inl rfl⟩
  | succ k ih =>
    rw [normalize]
    split_ifs with hlt
    · obtain ⟨j, hj, hge, hle⟩ := ih (m := m * 16) (c - 1) (by rwa [mul_assoc, ← pow_succ'])
      have hpow : m * 16 * 16 ^ j = m * 16 ^ (j + 1) := by rw [mul_assoc, ← pow_succ']
      rw [hpow] at hj hge hle
      refine ⟨j + 1, ?_, hge, .inr ?_⟩
      · rw [hj]
        congr 1
        push_cast
        ring
      · obtain rfl | hle := hle
        · rw [zero_add, pow_one]
          omega
        · exact hle
    · exact ⟨0, by rw [Nat.cast_zero, sub_zero, pow_zero, mul_one], by omega, .inl rfl⟩

/-- Shifting digits to the left leaves the value. -/
theorem shifted_value (n m j : Nat) (c : ℤ) : ((m * 16 ^ j : Nat) : ℚ) * lastDigit n (c - j) = m * lastDigit n c := by
  have h := lastDigit_add n (c - j) j
  rw [sub_add_cancel] at h
  rw [h]
  push_cast
  ring

/-- An operand normalized to n digits. -/
theorem normalize_operand {n m : Nat} (hn : 1 ≤ n) (hm0 : m ≠ 0) (hm : m < 16 ^ n) (c : ℤ) :
    ∃ d a, normalize n (16 ^ (n - 1)) c m = (d, a) ∧ 16 ^ (n - 1) ≤ a ∧ a < 16 ^ n ∧ (a : ℚ) * lastDigit n d = m * lastDigit n c := by
  have hpow : 16 ^ n = 16 * 16 ^ (n - 1) := by rw [← pow_succ', Nat.sub_add_cancel hn]
  have hone : 1 * 16 ^ n ≤ m * 16 ^ n := Nat.mul_le_mul_right _ (Nat.one_le_iff_ne_zero.2 hm0)
  obtain ⟨j, hj, hge, hle⟩ := normalize_spec (limit := 16 ^ (n - 1)) n c (m := m) (by omega)
  refine ⟨_, _, hj, hge, ?_, shifted_value n m j c⟩
  obtain rfl | hle := hle
  · rwa [pow_zero, mul_one]
  · omega

/-! ## The aligned sum -/

theorem signed_eq (neg : Bool) (m : Nat) : signed neg m = (if neg then -1 else 1) * (m : ℤ) := by
  cases neg <;> simp [signed]

theorem signed_bne (neg sub : Bool) (m : Nat) :
    signed (neg != sub) m = (if sub then -1 else 1) * ((if neg then -1 else 1) * (m : ℤ)) := by
  cases neg <;> cases sub <;> simp [signed]

theorem alignedSum_eq (x y : FNum) (sub : Bool) : (alignedSum x y sub).2 =
    (if x.neg then -1 else 1) * ((x.man * 16 / 16 ^ (y.chr - x.chr).toNat : Nat) : ℤ) +
      (if sub then -1 else 1) * ((if y.neg then -1 else 1) * ((y.man * 16 / 16 ^ (x.chr - y.chr).toNat : Nat) : ℤ)) := by
  rw [alignedSum, signed_eq, signed_bne]

/-- An aligned mantissa is cut off by less than one unit of the guard digit. -/
theorem aligned_cut (n m : Nat) (a b : ℤ) : ∃ rest, 0 ≤ rest ∧ rest < lastDigit (n + 1) (max a b) ∧ (b ≤ a → rest = 0) ∧
    (m : ℚ) * lastDigit n a = ((m * 16 / 16 ^ (b - a).toNat : Nat) : ℚ) * lastDigit (n + 1) (max a b) + rest := by
  have hunit : lastDigit (n + 1) (max a b) = 16 ^ (b - a).toNat * lastDigit (n + 1) a := by
    rw [← lastDigit_add, show a + ((b - a).toNat : ℤ) = max a b by omega]
  have hpos := lastDigit_pos (n + 1) a
  have hsplit : ((m * 16 : Nat) : ℚ) = 16 ^ (b - a).toNat * ((m * 16 / 16 ^ (b - a).toNat : Nat) : ℚ) +
      ((m * 16 % 16 ^ (b - a).toNat : Nat) : ℚ) := by exact_mod_cast (Nat.div_add_mod (m * 16) (16 ^ (b - a).toNat)).symm
  have hrest : ((m * 16 % 16 ^ (b - a).toNat : Nat) : ℚ) < 16 ^ (b - a).toNat := by
    exact_mod_cast Nat.mod_lt _ (by positivity)
  refine ⟨((m * 16 % 16 ^ (b - a).toNat : Nat) : ℚ) * lastDigit (n + 1) a, by positivity, ?_, fun h => ?_, ?_⟩
  · rw [hunit]
    exact mul_lt_mul_of_pos_right hrest hpos
  · rw [show (b - a).toNat = 0 by omega, pow_zero, Nat.mod_one, Nat.cast_zero, zero_mul]
  · rw [hunit, lastDigit_digits n a 1, pow_one, ← mul_assoc, ← mul_assoc, ← add_mul]
    congr 1
    push_cast at hsplit
    linarith

/-- The aligned sum is less than one unit of the guard digit from the exact one, and is exact for equal characteristics. -/
theorem alignedSum_error (n : Nat) (x y : FNum) (sub : Bool) :
    |((alignedSum x y sub).2 : ℚ) * lastDigit (n + 1) (max x.chr y.chr) - (x.value n + (if sub then -1 else 1) * y.value n)| <
        lastDigit (n + 1) (max x.chr y.chr) ∧
      (x.chr = y.chr → ((alignedSum x y sub).2 : ℚ) * lastDigit (n + 1) (max x.chr y.chr) =
        x.value n + (if sub then -1 else 1) * y.value n) := by
  obtain ⟨ρ, hρ, hρ', hρ0, hx⟩ := aligned_cut n x.man x.chr y.chr
  obtain ⟨σ, hσ, hσ', hσ0, hy⟩ := aligned_cut n y.man y.chr x.chr
  rw [max_comm y.chr] at hσ' hy
  have hdiff : ((alignedSum x y sub).2 : ℚ) * lastDigit (n + 1) (max x.chr y.chr) -
      (x.value n + (if sub then -1 else 1) * y.value n) =
      -((if x.neg then -1 else 1) * ρ) - (if sub then -1 else 1) * ((if y.neg then -1 else 1) * σ) := by
    rw [alignedSum_eq, FNum.value_eq, FNum.value_eq, hx, hy]
    generalize x.man * 16 / 16 ^ (y.chr - x.chr).toNat = a, y.man * 16 / 16 ^ (x.chr - y.chr).toNat = b
    push_cast
    ring
  refine ⟨?_, fun h => ?_⟩
  · rw [hdiff]
    obtain h | h := le_total x.chr y.chr
    · rw [hσ0 h, mul_zero, mul_zero, sub_zero, abs_neg, abs_sign_mul, abs_of_nonneg hρ]
      exact hρ'
    · rw [hρ0 h, mul_zero, neg_zero, zero_sub, abs_neg, abs_sign_mul, abs_sign_mul, abs_of_nonneg hσ]
      exact hσ'
  · rw [hρ0 h.ge, hσ0 h.le] at hdiff
    simp only [mul_zero, neg_zero, sub_zero] at hdiff
    exact sub_eq_zero.1 hdiff

/-! ## Comparison -/

/-- The order of two numbers by a sum of which one part outweighs the other. -/
theorem outweighed {a b : Nat} {u ρ : ℚ} (p q : Bool) (hab : b < a) (hρ : 0 ≤ ρ) (hρu : ρ < u) {w : ℤ} {e : ℚ}
    (hw : w = (if p then -1 else 1) * (a : ℤ) - (if q then -1 else 1) * (b : ℤ))
    (he : e = (if p then -1 else 1) * (a * u) - (if q then -1 else 1) * (b * u + ρ)) : w < 0 ∧ e < 0 ∨ 0 < w ∧ 0 < e := by
  have hab' : (b + 1 : ℚ) * u ≤ a * u := mul_le_mul_of_nonneg_right (by exact_mod_cast hab) (by linarith)
  have hb : 0 ≤ (b : ℚ) * u := mul_nonneg (Nat.cast_nonneg _) (by linarith)
  subst hw he
  cases p <;> cases q <;> simp only [if_true, if_false, Bool.false_eq_true]
  · exact .inr ⟨by omega, by linarith⟩
  · exact .inr ⟨by omega, by linarith⟩
  · exact .inl ⟨by omega, by linarith⟩
  · exact .inl ⟨by omega, by linarith⟩

/-- A shifted mantissa is less than a normalized one. -/
theorem shifted_lt {n m m' : Nat} {k : Nat} (hn : 1 ≤ n) (hk : 1 ≤ k) (hm : m < 16 ^ n) (hm' : 16 ^ (n - 1) ≤ m') :
    m * 16 / 16 ^ k < m' * 16 := by
  have hpow : 16 ^ n = 16 * 16 ^ (n - 1) := by rw [← pow_succ', Nat.sub_add_cancel hn]
  calc m * 16 / 16 ^ k ≤ m * 16 / 16 ^ 1 := Nat.div_le_div_left (Nat.pow_le_pow_right (by decide) hk) (by decide)
    _ = m := by rw [pow_one, Nat.mul_div_cancel _ (by decide)]
    _ < m' * 16 := by omega

/-- Two normalized numbers of different characteristics. -/
theorem alignedSum_of_normalized {n : Nat} (hn : 1 ≤ n) {u v : FNum} (hu : u.man < 16 ^ n) (hv : v.man < 16 ^ n)
    (hu' : 16 ^ (n - 1) ≤ u.man) (hv' : 16 ^ (n - 1) ≤ v.man) (hne : u.chr ≠ v.chr) :
    (alignedSum u v true).2 < 0 ∧ u.value n - v.value n < 0 ∨ 0 < (alignedSum u v true).2 ∧ 0 < u.value n - v.value n := by
  obtain ⟨ρ, hρ, hρ', hρ0, hx⟩ := aligned_cut n u.man u.chr v.chr
  obtain ⟨σ, hσ, hσ', hσ0, hy⟩ := aligned_cut n v.man v.chr u.chr
  rw [max_comm v.chr] at hσ' hy
  rw [alignedSum_eq, FNum.value_eq, FNum.value_eq, hx, hy, if_pos rfl, neg_one_mul, ← sub_eq_add_neg]
  obtain hlt | hlt := lt_or_gt_of_ne hne
  · have h := outweighed v.neg u.neg (shifted_lt (k := (v.chr - u.chr).toNat) hn (by omega) hu hv') hρ hρ' rfl rfl
    rw [hσ0 hlt.le, add_zero, show (u.chr - v.chr).toNat = 0 by omega, pow_zero, Nat.div_one]
    obtain ⟨hw, he⟩ | ⟨hw, he⟩ := h
    · exact .inr ⟨by linarith, by linarith⟩
    · exact .inl ⟨by linarith, by linarith⟩
  · have h := outweighed u.neg v.neg (shifted_lt (k := (u.chr - v.chr).toNat) hn (by omega) hv hu') hσ hσ' rfl rfl
    rw [hρ0 hlt.le, add_zero, show (v.chr - u.chr).toNat = 0 by omega, pow_zero, Nat.div_one]
    exact h

/-- How the compared sum orders the values. -/
theorem alignedSum_orders {n : Nat} (hn : 1 ≤ n) {u v : FNum} (hu : u.man < 16 ^ n) (hv : v.man < 16 ^ n) {w : ℤ}
    (hw : w = (alignedSum u v true).2) :
    (u.chr = v.chr ∨ 16 ^ (n - 1) ≤ u.man ∧ 16 ^ (n - 1) ≤ v.man →
      (w = 0 ↔ u.value n = v.value n) ∧ (w < 0 ↔ u.value n < v.value n)) ∧
    (u.value n = v.value n → w = 0) ∧ (u.value n < v.value n → w ≤ 0) ∧ (v.value n < u.value n → 0 ≤ w) := by
  obtain ⟨herror, hexact⟩ := alignedSum_error n u v true
  have hunit := lastDigit_pos (n + 1) (max u.chr v.chr)
  rw [← hw, if_pos rfl, neg_one_mul, ← sub_eq_add_neg] at herror hexact
  have hcast : ∀ k : ℤ, k < w → (k + 1 : ℚ) * lastDigit (n + 1) (max u.chr v.chr) ≤ w * lastDigit (n + 1) (max u.chr v.chr) :=
    fun k hk => mul_le_mul_of_nonneg_right (by exact_mod_cast hk) hunit.le
  have hcast' : ∀ k : ℤ, w < k → (w + 1 : ℚ) * lastDigit (n + 1) (max u.chr v.chr) ≤ k * lastDigit (n + 1) (max u.chr v.chr) :=
    fun k hk => mul_le_mul_of_nonneg_right (by exact_mod_cast hk) hunit.le
  obtain ⟨hlow, hhigh⟩ := abs_lt.1 herror
  have hle (h : u.value n ≤ v.value n) : w ≤ 0 := by
    by_contra hpos
    have := hcast 0 (by omega)
    push_cast at this
    linarith
  have hge (h : v.value n ≤ u.value n) : 0 ≤ w := by
    by_contra hneg
    have := hcast' 0 (by omega)
    push_cast at this
    linarith
  refine ⟨fun h => ?_, fun h => le_antisymm (hle h.le) (hge h.ge), fun h => hle h.le, fun h => hge h.le⟩
  by_cases hchr : u.chr = v.chr
  · have hval := hexact hchr
    rw [← sub_eq_zero (a := u.value n), ← sub_neg (a := u.value n), ← hval, mul_eq_zero_iff_right hunit.ne',
      mul_neg_iff, or_iff_right fun h => hunit.not_gt h.2, and_iff_left hunit]
    norm_cast
  · obtain ⟨hu', hv'⟩ := h.resolve_left hchr
    rw [← sub_eq_zero (a := u.value n), ← sub_neg (a := u.value n), hw]
    obtain ⟨hneg, hneg'⟩ | ⟨hpos, hpos'⟩ := alignedSum_of_normalized hn hu hv hu' hv' hchr
    · exact ⟨iff_of_false hneg.ne hneg'.ne, iff_of_true hneg hneg'⟩
    · exact ⟨iff_of_false hpos.ne' hpos'.ne', iff_of_false hpos.not_gt hpos'.not_gt⟩

/-- The mantissa of a number that is read has as many digits as its format. -/
theorem unpackS_man_lt (w : Word) : (unpackS w).man < 16 ^ 6 := by
  rw [unpackS_eq]
  exact Nat.mod_lt _ (by decide)

theorem unpackL_man_lt (w : Dword) : (unpackL w).man < 16 ^ 14 := by
  rw [unpackL_eq]
  exact Nat.mod_lt _ (by decide)

/-- Settles O52: the compared sum is the one of the statement, and orders the values. -/
theorem floatingCompareOrdersTheValues : Obligations.FloatingCompareOrdersTheValues := by
  intro s r1 r2 x b d y z h1 c hc hcase n u v w hn hu hv hw
  have hsum : w = (alignedSum u v true).2 := by rw [hw, alignedSum_eq, if_pos rfl, neg_one_mul, ← sub_eq_add_neg]
  have meaning : exec c.1 s = .next { s with cc := ccSigned (alignedSum u v true).2, pc := s.nextAddr c.2.1 } ∧
      1 ≤ n ∧ u.man < 16 ^ n ∧ v.man < 16 ^ n := by
    subst hn hu hv
    obtain rfl | hc := List.mem_cons.1 hc
    · exact ⟨State.shortRR_of h1 hcase fun y => s.ccResult (ccFloatCompare (unpackS (s.getShort r1)) (unpackS y)) 2, Nat.succ_pos _,
        unpackS_man_lt _, unpackS_man_lt _⟩
    obtain rfl | hc := List.mem_cons.1 hc
    · exact ⟨State.shortRX_of h1 hcase fun y => s.ccResult (ccFloatCompare (unpackS (s.getShort r1)) (unpackS y)) 4, Nat.succ_pos _,
        unpackS_man_lt _, unpackS_man_lt _⟩
    obtain rfl | hc := List.mem_cons.1 hc
    · exact ⟨State.longRR_of h1 hcase fun y => s.ccResult (ccFloatCompare (unpackL (s.getFpr r1)) (unpackL y)) 2, Nat.succ_pos _,
        unpackL_man_lt _, unpackL_man_lt _⟩
    obtain rfl := List.mem_singleton.1 hc
    exact ⟨State.longRX_of h1 hcase fun y => s.ccResult (ccFloatCompare (unpackL (s.getFpr r1)) (unpackL y)) 4, Nat.succ_pos _,
      unpackL_man_lt _, unpackL_man_lt _⟩
  obtain ⟨hexec, hpos, hu', hv'⟩ := meaning
  rw [← hsum] at hexec
  exact ⟨hexec, alignedSum_orders hpos hu' hv' hsum⟩

end Sys2Proof.Machine
end

section
/-! The sums, products, quotients and rounded numbers of floating-point arithmetic. O55 and O56. -/

namespace Sys2Proof.Machine

/-! ## Sums -/

/-- How the number r holds a sum of t guard digits at the characteristic c: after a carry, as it is, or shifted to the left. -/
def FNum.Holds (n : Nat) (norm : Bool) (c : ℤ) (t : Nat) (r : FNum) : Prop :=
  (r.chr = c + 1 ∧ 16 ^ (n + 1) ≤ t ∧ t < 16 ^ (n + 2) ∧ r.man = t / 16 ^ 2) ∨
  (r.chr = c ∧ t < 16 ^ (n + 1) ∧ (norm = true → 16 ^ n ≤ t) ∧ r.man = t / 16) ∨
  ∃ j : Nat, norm = true ∧ r.chr = c - (j + 1 : ℤ) ∧ r.man = t * 16 ^ j ∧ 16 ^ n ≤ r.man * 16 ∧ r.man * 16 < 16 ^ (n + 1)

section Holds

variable {n : Nat} {norm : Bool} {c : ℤ} {t : Nat} {r : FNum}

theorem FNum.Holds.man_lt (h : r.Holds n norm c t) : r.man < 16 ^ n := by
  obtain ⟨-, -, ht, hman⟩ | ⟨-, ht, -, hman⟩ | ⟨j, -, -, -, -, ht⟩ := h
  · rw [hman]
    exact Nat.div_lt_of_lt_mul (by rwa [← pow_add, add_comm])
  · rw [hman]
    exact Nat.div_lt_of_lt_mul (by rwa [← pow_succ'])
  · rw [pow_succ] at ht
    omega

theorem FNum.Holds.normalized (hn : 1 ≤ n) (h : r.Holds n norm c t) (hnorm : norm = true) : 16 ^ (n - 1) ≤ r.man := by
  have hpow : 16 ^ n = 16 ^ (n - 1) * 16 := by rw [← pow_succ, Nat.sub_add_cancel hn]
  obtain ⟨-, ht, -, hman⟩ | ⟨-, -, ht, hman⟩ | ⟨j, -, -, -, ht, -⟩ := h
  · rw [pow_succ] at ht
    omega
  · have := ht hnorm
    omega
  · omega

theorem FNum.Holds.chr_of_unnormalized (h : r.Holds n norm c t) (hnorm : norm = false) :
    r.chr = if 16 ^ (n + 1) ≤ t then c + 1 else c := by
  obtain ⟨hchr, ht, -⟩ | ⟨hchr, ht, -⟩ | ⟨j, htrue, -⟩ := h
  · rw [hchr, if_pos ht]
  · rw [hchr, if_neg ht.not_ge]
  · exact absurd (htrue.symm.trans hnorm) (by decide)

/-- A number that holds a sum is not greater, and less than a unit of its last digit smaller. -/
theorem FNum.Holds.close (h : r.Holds n norm c t) :
    |r.value n| ≤ t * lastDigit (n + 1) c ∧ t * lastDigit (n + 1) c - |r.value n| < lastDigit n r.chr ∧
      t * lastDigit (n + 1) c - |r.value n| + lastDigit (n + 1) c ≤ lastDigit n (max r.chr c) := by
  have hunit := lastDigit_pos (n + 1) c
  have hdigit : lastDigit n c = 16 * lastDigit (n + 1) c := by rw [lastDigit_digits n c 1, pow_one]
  rw [FNum.abs_value]
  obtain ⟨hchr, -, -, hman⟩ | ⟨hchr, -, -, hman⟩ | ⟨j, -, hchr, hman, -⟩ := h
  · have hcarry : lastDigit n r.chr = ((16 ^ 2 : Nat) : ℚ) * lastDigit (n + 1) c := by
      have := lastDigit_add n c 1
      rw [hchr, ← Nat.cast_one, this, hdigit]
      push_cast
      ring
    obtain ⟨hle, hcut⟩ := cut_le t (d := 16 ^ 2) (by decide) hunit
    rw [max_eq_left (by omega), hcarry, hman]
    exact ⟨hle, by linarith, by linarith⟩
  · obtain ⟨hle, hcut⟩ := cut_le t (d := 16) (by decide) hunit
    rw [hchr, max_self, hdigit, hman]
    push_cast at hle hcut
    exact ⟨hle, by linarith, by linarith⟩
  · have hvalue : (r.man : ℚ) * lastDigit n r.chr = t * lastDigit (n + 1) c := by
      have h1 := shifted_value (n + 1) t (j + 1) c
      rw [← h1, hman, hchr, lastDigit_digits n _ 1]
      push_cast
      ring
    rw [hvalue, sub_self, zero_add, max_eq_right (by omega), hdigit]
    exact ⟨le_rfl, lastDigit_pos .., by linarith⟩

end Holds

/-- The end of AddSub for a sum that is not taken as zero. -/
theorem addSubEnd_holds {n : Nat} {norm neg : Bool} (mu ms : Bool) (c : ℤ) {t : Nat} (ht : t < 16 ^ (n + 1))
    (hzero : if norm then t ≠ 0 else 16 ≤ t) :
    ∃ r : FNum, addSubEnd n norm mu ms neg c t = r.delivered mu ∧ r.neg = neg ∧ r.Holds n norm c t := by
  rw [addSubEnd]
  cases norm with
  | false =>
    rw [if_neg Bool.false_ne_true] at hzero ⊢
    rw [if_neg (by omega)]
    exact ⟨_, deliver_eq .., rfl, .inr (.inl ⟨rfl, ht, fun h => absurd h (by decide), rfl⟩)⟩
  | true =>
    rw [if_pos rfl] at hzero ⊢
    have hone : 1 * 16 ^ (n + 1) ≤ t * 16 ^ (n + 1) := Nat.mul_le_mul_right _ (Nat.one_le_iff_ne_zero.2 hzero)
    obtain ⟨j, hj, hge, hle⟩ := normalize_spec (limit := 16 ^ n) (n + 1) c (m := t) (by rw [pow_succ] at hone ⊢; omega)
    rw [if_neg hzero, hj]
    refine ⟨_, deliver_eq .., rfl, ?_⟩
    cases j with
    | zero =>
      rw [pow_zero, mul_one] at hge ⊢
      exact .inr (.inl ⟨by push_cast; ring, ht, fun _ => hge, rfl⟩)
    | succ j =>
      have hman : t * 16 ^ (j + 1) = t * 16 ^ j * 16 := by rw [pow_succ, mul_assoc]
      have hlt := hle.resolve_left j.succ_ne_zero
      rw [hman] at hge hlt ⊢
      rw [Nat.mul_div_cancel _ (by decide)]
      exact .inr (.inr ⟨j, rfl, by push_cast; rfl, rfl, hge, by rwa [pow_succ']⟩)

/-- The end of AddSub for a sum that needs no shift. -/
theorem addSubEnd_full {n : Nat} (hn : 1 ≤ n) (norm mu ms neg : Bool) (c : ℤ) {t : Nat} (ht : 16 ^ n ≤ t) :
    addSubEnd n norm mu ms neg c t = ({ neg := neg, chr := c, man := t / 16 } : FNum).delivered mu := by
  have hpow : 16 ^ 1 ≤ 16 ^ n := Nat.pow_le_pow_right (by decide) hn
  rw [addSubEnd, normalize, if_neg ht.not_gt, if_neg (show ¬ t = 0 by omega), if_neg (show ¬ t / 16 = 0 by omega), ite_self]
  rfl

/-- What AddSub delivers where the sum is taken as zero. -/
def zeroSum (ms : Bool) (c : ℤ) : FOut :=
  if ms then { value := some { neg := false, chr := c, man := 0 }, exc := some .significance } else { value := none, exc := none }

/-- AddSub where the sum is taken as zero. -/
theorem addSub_zero {n : Nat} {sub norm : Bool} (mu ms : Bool) {x y : FNum} {v : ℤ} (hv : v = (alignedSum x y sub).2)
    (hzero : if norm then v = 0 else |v| < 16) : addSub n sub norm mu ms x y = zeroSum ms (max x.chr y.chr) := by
  have hpow : 16 ^ 1 ≤ 16 ^ (n + 1) := Nat.pow_le_pow_right (by decide) (by omega)
  rw [Int.abs_eq_natAbs] at hzero
  have hsmall : v.natAbs < 16 ∧ (norm = true → v.natAbs = 0) := by
    cases norm
    · rw [if_neg Bool.false_ne_true] at hzero
      exact ⟨by omega, fun h => absurd h (by decide)⟩
    · rw [if_pos rfl] at hzero
      exact ⟨by omega, fun _ => by omega⟩
  rw [addSub, ← hv]
  refine (if_neg (by omega)).trans ?_
  rw [addSubEnd]
  split_ifs with hnorm h
  · rfl
  · exact absurd (hsmall.2 hnorm) h
  · rfl
  · omega

/-- AddSub where the sum is not taken as zero. -/
theorem addSub_holds {n : Nat} (hn : 1 ≤ n) {sub norm : Bool} (mu ms : Bool) {x y : FNum} {v : ℤ}
    (hv : v = (alignedSum x y sub).2) (hbound : v.natAbs < 16 ^ (n + 2)) (hzero : if norm then v ≠ 0 else 16 ≤ |v|) :
    ∃ r : FNum, addSub n sub norm mu ms x y = r.delivered mu ∧ r.neg = decide (v < 0) ∧
      r.Holds n norm (max x.chr y.chr) v.natAbs := by
  have hnat : if norm then v.natAbs ≠ 0 else 16 ≤ v.natAbs := by
    rw [Int.abs_eq_natAbs] at hzero
    cases norm
    · rw [if_neg Bool.false_ne_true] at hzero ⊢
      omega
    · rw [if_pos rfl] at hzero ⊢
      omega
  rw [addSub, ← hv]
  by_cases hcarry : 16 ^ (n + 1) ≤ v.natAbs
  · refine ⟨_, (if_pos hcarry).trans (addSubEnd_full hn norm mu ms _ _ ?_), rfl, .inl ⟨rfl, hcarry, hbound, ?_⟩⟩
    · rw [pow_succ] at hcarry
      omega
    · exact Nat.div_div_eq_div_mul ..
  · obtain ⟨r, hr, hneg, hholds⟩ := addSubEnd_holds (norm := norm) mu ms (max x.chr y.chr) (lt_of_not_ge hcarry) hnat
    exact ⟨r, (if_neg hcarry).trans hr, hneg, hholds⟩

theorem natAbs_signed (neg : Bool) (m : Nat) : (signed neg m).natAbs = m := by
  cases neg
  · exact Int.natAbs_natCast m
  · exact (Int.natAbs_neg _).trans (Int.natAbs_natCast m)

/-- The bound of a sum of two mantissas. -/
theorem alignedSum_lt {n : Nat} {x y : FNum} (hx : x.man < 16 ^ n) (hy : y.man < 16 ^ n) (sub : Bool) :
    (alignedSum x y sub).2.natAbs < 16 ^ (n + 2) := by
  have hcut (m d : Nat) (hm : m < 16 ^ n) : m * 16 / 16 ^ d < 16 ^ n * 16 :=
    lt_of_le_of_lt (Nat.div_le_self ..) (by omega)
  have hx' := hcut x.man (y.chr - x.chr).toNat hx
  have hy' := hcut y.man (x.chr - y.chr).toNat hy
  have hle := Int.natAbs_add_le (signed x.neg (x.man * 16 / 16 ^ (y.chr - x.chr).toNat))
    (signed (y.neg != sub) (y.man * 16 / 16 ^ (x.chr - y.chr).toNat))
  rw [natAbs_signed, natAbs_signed] at hle
  rw [alignedSum, pow_add]
  omega

/-- A number that holds a sum, against the exact result. -/
theorem FNum.Holds.near {n : Nat} {norm : Bool} {c v : ℤ} {r : FNum} {e : ℚ} (h : r.Holds n norm c v.natAbs)
    (hneg : r.neg = decide (v < 0)) (he : |v * lastDigit (n + 1) c - e| < lastDigit (n + 1) c) :
    |r.value n - e| < lastDigit n (max r.chr c) := by
  obtain ⟨hle, -, hsum⟩ := h.close
  have hsign : (v : ℚ) = (if r.neg then -1 else 1) * (v.natAbs : ℚ) := by
    rw [hneg]
    by_cases hv : v < 0
    · rw [decide_eq_true hv, if_pos rfl, Nat.cast_natAbs, abs_of_neg hv]
      push_cast
      ring
    · rw [decide_eq_false hv, if_neg Bool.false_ne_true, Nat.cast_natAbs, abs_of_nonneg (not_lt.1 hv), one_mul]
  have hdiff : |r.value n - v * lastDigit (n + 1) c| = v.natAbs * lastDigit (n + 1) c - |r.value n| := by
    rw [FNum.value_eq_abs, hsign, mul_assoc, ← mul_sub, abs_sign_mul, abs_sub_comm, abs_of_nonneg (by linarith)]
    rw [abs_sign_mul, abs_abs]
  calc |r.value n - e| ≤ |r.value n - v * lastDigit (n + 1) c| + |v * lastDigit (n + 1) c - e| := abs_sub_le ..
    _ < lastDigit n (max r.chr c) := by linarith

/-- Settles O55: the sum is taken as zero, or the delivered number holds it. -/
theorem floatingSumsAreTruncated : Obligations.FloatingSumsAreTruncated := by
  intro n sub norm mu ms x y c v o e g hn hx hy _ _ _ _ hc hv ho he hg
  have hpos : 1 ≤ n := by
    simp only [List.mem_cons, List.not_mem_nil, or_false] at hn
    omega
  have hsum : v = (alignedSum x y sub).2 := hv.trans (alignedSum_eq x y sub).symm
  have hbound : v.natAbs < 16 ^ (n + 2) := hsum ▸ alignedSum_lt hx hy sub
  have hclose : |g - e| < lastDigit (n + 1) c := by
    rw [hg, he, hc, hsum]
    exact (alignedSum_error n x y sub).1
  have hmagnitude : |g| = v.natAbs * lastDigit (n + 1) c := by
    rw [hg, abs_mul, abs_of_pos (lastDigit_pos ..), Nat.cast_natAbs, Int.cast_abs]
  have hholds (h : if norm then v ≠ 0 else 16 ≤ |v|) :
      ∃ r : FNum, o = r.delivered mu ∧ r.neg = decide (v < 0) ∧ r.Holds n norm c v.natAbs := by
    rw [ho, hc]
    exact addSub_holds hpos mu ms hsum hbound h
  refine ⟨hclose, fun h => ?_, fun h => ?_, fun r hr => ?_⟩
  · rw [ho, hc, addSub_zero mu ms hsum h, zeroSum]
  · obtain ⟨r, hr, hneg, hhold⟩ := hholds h
    obtain ⟨hle, hlt, -⟩ := hhold.close
    rw [hmagnitude, Int.abs_eq_natAbs]
    exact ⟨r, hr, hneg, hhold.man_lt, hhold.normalized hpos,
      fun h => by exact_mod_cast hhold.chr_of_unnormalized h, hle, hlt⟩
  · by_cases h : if norm then v ≠ 0 else 16 ≤ |v|
    · obtain ⟨r', hr', hneg, hhold⟩ := hholds h
      obtain ⟨rfl, hchr0, hchr⟩ := FNum.of_delivered (hr'.symm.trans hr)
      rw [← hc]
      exact ⟨hchr0, hchr, hhold.man_lt, hhold.normalized hpos, hhold.near hneg (hg ▸ hclose)⟩
    · have hzero : if norm then v = 0 else |v| < 16 := by
        cases norm
        · exact not_le.1 h
        · exact not_not.1 h
      rw [ho, addSub_zero mu ms hsum hzero, zeroSum] at hr
      cases ms
      · exact absurd (congrArg FOut.value hr) (by simp)
      · exact absurd (congrArg FOut.exc hr) (by simp)

end Sys2Proof.Machine
end

section
/-! Floating-point products, quotients, halves and rounded numbers. O56. -/

namespace Sys2Proof.Machine

/-- The number r of n digits is the rational number v, not zero, with its digits after the n-th cut off, and normalized. -/
def FNum.Truncates (n : Nat) (v : ℚ) (r : FNum) : Prop :=
  16 ^ (n - 1) ≤ r.man ∧ r.man < 16 ^ n ∧ 0 < r.value n * v ∧ |r.value n| ≤ |v| ∧ |v| - |r.value n| < lastDigit n r.chr

/-- The number with m, the whole digits of q, as mantissa. -/
theorem FNum.truncates_of {n m : Nat} {neg : Bool} {c : ℤ} {q v : ℚ} (hv : v = (if neg then -1 else 1) * (q * lastDigit n c))
    (hge : 16 ^ (n - 1) ≤ m) (hlt : m < 16 ^ n) (hle : m ≤ q) (hq : q < m + 1) :
    ({ neg := neg, chr := c, man := m } : FNum).Truncates n v := by
  have hunit := lastDigit_pos n c
  have hm : (0 : ℚ) < m := by exact_mod_cast lt_of_lt_of_le (Nat.pow_pos (by decide)) hge
  have hqpos : 0 < q * lastDigit n c := mul_pos (hm.trans_le hle) hunit
  have habs : |v| = q * lastDigit n c := by rw [hv, abs_sign_mul, abs_of_pos hqpos]
  refine ⟨hge, hlt, ?_, ?_, ?_⟩
  · rw [FNum.value_eq, hv, mul_mul_mul_comm]
    refine mul_pos ?_ (mul_pos (mul_pos hm hunit) hqpos)
    cases neg <;> norm_num
  · rw [FNum.abs_value, habs]
    exact mul_le_mul_of_nonneg_right hle hunit.le
  · rw [FNum.abs_value, habs, ← sub_mul]
    exact (mul_lt_mul_of_pos_right (by linarith) hunit).trans_eq (one_mul _)

theorem natDiv_bounds (a : Nat) {b : Nat} (hb : 0 < b) : ((a / b : Nat) : ℚ) ≤ a / b ∧ (a : ℚ) / b < ((a / b : Nat) : ℚ) + 1 := by
  have hb' : (0 : ℚ) < b := by exact_mod_cast hb
  refine ⟨Nat.cast_div_le, ?_⟩
  rw [div_lt_iff₀ hb']
  exact_mod_cast Nat.lt_mul_of_div_lt (Nat.lt_succ_self _) hb

theorem FNum.value_eq_zero_iff (n : Nat) (x : FNum) : x.value n = 0 ↔ x.man = 0 := by
  rw [← abs_eq_zero, FNum.abs_value, mul_eq_zero_iff_right (lastDigit_pos n x.chr).ne', Nat.cast_eq_zero]

theorem sign_bne (a b : Bool) : (if (a != b) = true then (-1 : ℚ) else 1) = (if a then -1 else 1) * (if b then -1 else 1) := by
  cases a <;> cases b <;> simp

theorem sign_inv (a : Bool) : ((if a then (-1 : ℚ) else 1))⁻¹ = if a then -1 else 1 := by
  cases a <;> norm_num

theorem lastDigit_div (n : Nat) (c d : ℤ) (k : Nat) :
    lastDigit n c / lastDigit n d = 16 ^ k * lastDigit n (c - d + 64 + n - k) := by
  rw [lastDigit, lastDigit, lastDigit, ← zpow_natCast, ← zpow_add₀ (by norm_num), ← zpow_sub₀ (by norm_num)]
  congr 1
  ring

/-! ## Products -/

/-- A product of 2n digits, cut or extended. -/
theorem productDigits_truncates {n nr p : Nat} {neg : Bool} {c : ℤ} {v : ℚ} (hn : 1 ≤ n) (hnr : 1 ≤ nr)
    (hge : 16 ^ (2 * n - 1) ≤ p) (hlt : p < 16 ^ (2 * n)) (hv : v = (if neg then -1 else 1) * (p * lastDigit (2 * n) c)) :
    ({ neg := neg, chr := c, man := productDigits n nr p } : FNum).Truncates nr v := by
  by_cases h : 2 * n ≤ nr
  · obtain ⟨k, rfl⟩ := Nat.exists_eq_add_of_le h
    have hman : productDigits n (2 * n + k) p = p * 16 ^ k := by rw [productDigits, if_pos h, Nat.add_sub_cancel_left]
    rw [hman]
    refine FNum.truncates_of (q := ((p * 16 ^ k : Nat) : ℚ)) ?_ ?_ ?_ le_rfl (lt_add_one _)
    · rw [hv, lastDigit_digits (2 * n) c k]
      push_cast
      ring
    · rw [show 2 * n + k - 1 = 2 * n - 1 + k by omega, pow_add]
      exact Nat.mul_le_mul_right _ hge
    · rw [pow_add]
      exact Nat.mul_lt_mul_of_pos_right hlt (by positivity)
  · obtain ⟨k, hk⟩ := Nat.exists_eq_add_of_le (not_le.1 h).le
    have hman : productDigits n nr p = p / 16 ^ k := by rw [productDigits, if_neg h, hk, Nat.add_sub_cancel_left]
    obtain ⟨hle, hq⟩ := natDiv_bounds p (b := 16 ^ k) (by positivity)
    rw [hman]
    refine FNum.truncates_of ?_ ?_ ?_ hle hq
    · rw [hv, lastDigit_digits nr c k, ← hk]
      push_cast
      field_simp
    · rw [Nat.le_div_iff_mul_le (by positivity), ← pow_add, show nr - 1 + k = 2 * n - 1 by omega]
      exact hge
    · rw [Nat.div_lt_iff_lt_mul (by positivity), ← pow_add, ← hk]
      exact hlt

theorem multiply_truncates {n nr : Nat} (hn : 1 ≤ n) (hnr : 1 ≤ nr) (mu : Bool) {x y : FNum} (hx : x.man < 16 ^ n)
    (hy : y.man < 16 ^ n) (hx0 : x.man ≠ 0) (hy0 : y.man ≠ 0) :
    ∃ r : FNum, multiply n nr mu x y = r.delivered mu ∧ r.Truncates nr (x.value n * y.value n) := by
  obtain ⟨c, a, hnx, ha, ha', hvx⟩ := normalize_operand hn hx0 hx x.chr
  obtain ⟨d, b, hny, hb, hb', hvy⟩ := normalize_operand hn hy0 hy y.chr
  have hvalue : x.value n * y.value n =
      (if (x.neg != y.neg) = true then -1 else 1) * (((a * b : Nat) : ℚ) * lastDigit (2 * n) (c + d - 64)) := by
    rw [FNum.value_eq, FNum.value_eq, ← hvx, ← hvy, sign_bne, ← lastDigit_mul]
    push_cast
    ring
  have hlow : 16 ^ (2 * n - 2) ≤ a * b := by
    rw [show 2 * n - 2 = n - 1 + (n - 1) by omega, pow_add]
    exact Nat.mul_le_mul ha hb
  have hhigh : a * b < 16 ^ (2 * n) := by
    rw [two_mul, pow_add]
    exact Nat.mul_lt_mul'' ha' hb'
  rw [multiply, if_neg (not_or.2 ⟨hx0, hy0⟩), hnx, hny]
  by_cases hcarry : a * b < 16 ^ (2 * n - 1)
  · refine ⟨_, (if_pos hcarry).trans (deliver_eq mu (x.neg != y.neg) (c + d - 64 - 1) (productDigits n nr (a * b * 16))),
      productDigits_truncates hn hnr ?_ ?_ ?_⟩
    · rw [show 2 * n - 1 = 2 * n - 2 + 1 by omega, pow_succ]
      exact Nat.mul_le_mul_right _ hlow
    · rw [show 2 * n = 2 * n - 1 + 1 by omega, pow_succ]
      exact Nat.mul_lt_mul_of_pos_right hcarry (by decide)
    · have hshift := shifted_value (2 * n) (a * b) 1 (c + d - 64)
      rw [pow_one, Nat.cast_one] at hshift
      rw [hvalue, ← hshift]
  · exact ⟨_, (if_neg hcarry).trans (deliver_eq mu (x.neg != y.neg) (c + d - 64) (productDigits n nr (a * b))),
      productDigits_truncates hn hnr (not_lt.1 hcarry) hhigh hvalue⟩

/-! ## Quotients -/

theorem divide_truncates {n : Nat} (hn : 1 ≤ n) (mu : Bool) {x y : FNum} (hx : x.man < 16 ^ n)
    (hy : y.man < 16 ^ n) (hx0 : x.man ≠ 0) (hy0 : y.man ≠ 0) :
    ∃ r : FNum, divide n mu x y = r.delivered mu ∧ r.Truncates n (x.value n / y.value n) := by
  obtain ⟨c, a, hnx, ha, ha', hvx⟩ := normalize_operand hn hx0 hx x.chr
  obtain ⟨d, b, hny, hb, hb', hvy⟩ := normalize_operand hn hy0 hy y.chr
  have hpow : 16 ^ n = 16 ^ (n - 1) * 16 := by rw [← pow_succ, Nat.sub_add_cancel hn]
  have hbpos : 0 < b := lt_of_lt_of_le (by positivity) hb
  have hvalue (k : Nat) : x.value n / y.value n = (if (x.neg != y.neg) = true then -1 else 1) *
      (((a * 16 ^ k : Nat) : ℚ) / b * lastDigit n (c - d + 64 + n - k)) := by
    rw [FNum.value_eq, FNum.value_eq, ← hvx, ← hvy, sign_bne, mul_div_mul_comm, mul_div_mul_comm (a : ℚ), lastDigit_div n c d k,
      div_eq_mul_inv (if x.neg then (-1 : ℚ) else 1), sign_inv]
    push_cast
    ring
  rw [divide, if_neg hx0, hnx, hny]
  by_cases hcarry : b ≤ a
  · obtain ⟨hle, hq⟩ := natDiv_bounds (a * 16 ^ (n - 1)) hbpos
    refine ⟨_, (if_pos hcarry).trans (deliver_eq mu (x.neg != y.neg) (c - d + 65) (a * 16 ^ (n - 1) / b)),
      FNum.truncates_of ?_ ?_ ?_ hle hq⟩
    · rw [hvalue (n - 1), show c - d + 64 + n - ((n - 1 : Nat) : ℤ) = c - d + 65 by omega]
    · rw [Nat.le_div_iff_mul_le hbpos, mul_comm]
      exact Nat.mul_le_mul_right _ hcarry
    · rw [Nat.div_lt_iff_lt_mul hbpos]
      nlinarith
  · obtain ⟨hle, hq⟩ := natDiv_bounds (a * 16 ^ n) hbpos
    refine ⟨_, (if_neg hcarry).trans (deliver_eq mu (x.neg != y.neg) (c - d + 64) (a * 16 ^ n / b)),
      FNum.truncates_of ?_ ?_ ?_ hle hq⟩
    · rw [hvalue n, add_sub_cancel_right]
    · rw [Nat.le_div_iff_mul_le hbpos]
      nlinarith
    · rw [Nat.div_lt_iff_lt_mul hbpos, mul_comm]
      exact Nat.mul_lt_mul_of_pos_left (not_le.1 hcarry) (by positivity)

/-! ## Halves -/

theorem halve_truncates {n : Nat} (hn : 1 ≤ n) (mu : Bool) {x : FNum} (hx : x.man < 16 ^ n) (hx0 : x.man ≠ 0) :
    ∃ r : FNum, halve n mu x = r.delivered mu ∧ r.Truncates n (x.value n / 2) := by
  have hpow : 16 ^ (n + 1) = 16 ^ n * 16 := pow_succ ..
  have hpow' : 16 ^ n = 16 ^ (n - 1) * 16 := by rw [← pow_succ, Nat.sub_add_cancel hn]
  obtain ⟨c, a, hnx, ha, ha', hvx⟩ := normalize_operand (n := n + 1) (by omega) (m := x.man * 8) (by omega) (by omega) x.chr
  rw [Nat.add_sub_cancel] at hnx ha
  obtain ⟨hle, hq⟩ := natDiv_bounds a (b := 16) (by decide)
  rw [halve, if_neg hx0, hnx]
  refine ⟨_, deliver_eq .., FNum.truncates_of ?_ (by omega) (by omega) hle hq⟩
  have hc := lastDigit_digits n c 1
  have hx' := lastDigit_digits n x.chr 1
  rw [FNum.value_eq, hc, hx']
  push_cast at hvx ⊢
  rw [show (a : ℚ) / 16 * (16 ^ 1 * lastDigit (n + 1) c) = a * lastDigit (n + 1) c by ring, hvx]
  ring

/-! ## Rounding -/

/-- What Round delivers before the carry: the nearest multiple of 16^d, half of it away from zero. -/
theorem round_bounds {m d : Nat} {u : ℚ} (hd : 1 ≤ d) (hu : 0 < u) :
    m * u - ((m + 8 * 16 ^ (d - 1)) / 16 ^ d : Nat) * (16 ^ d * u) < 16 ^ d * u / 2 ∧
      ((m + 8 * 16 ^ (d - 1)) / 16 ^ d : Nat) * (16 ^ d * u) - m * u ≤ 16 ^ d * u / 2 := by
  obtain ⟨hle, hlt⟩ := natDiv_bounds (m + 8 * 16 ^ (d - 1)) (b := 16 ^ d) (by positivity)
  generalize (m + 8 * 16 ^ (d - 1)) / 16 ^ d = r at hle hlt ⊢
  have hhalf : (16 : ℚ) ^ d = 16 ^ (d - 1) * 16 := by rw [← pow_succ, Nat.sub_add_cancel hd]
  push_cast at hle hlt
  rw [le_div_iff₀ (by positivity)] at hle
  rw [div_lt_iff₀ (by positivity)] at hlt
  constructor <;> nlinarith

/-- Round carries at most one unit. -/
theorem round_le {m nr d : Nat} (hd : 1 ≤ d) (hm : m < 16 ^ (nr + d)) : (m + 8 * 16 ^ (d - 1)) / 16 ^ d ≤ 16 ^ nr := by
  have hhalf : 16 ^ d = 16 ^ (d - 1) * 16 := by rw [← pow_succ, Nat.sub_add_cancel hd]
  refine Nat.le_of_lt_succ ((Nat.div_lt_iff_lt_mul (by positivity)).2 ?_)
  rw [Nat.succ_eq_add_one, add_mul, one_mul, ← pow_add]
  omega

/-- Round delivers the nearest number. -/
theorem roundTo_spec {n nr : Nat} (hpos : 1 ≤ nr) (hnr : nr < n) {x : FNum} (hx : x.man < 16 ^ n) :
    ∃ r : FNum, roundTo n nr x = r.delivered false ∧ r.neg = x.neg ∧ r.man < 16 ^ nr ∧
      (r.chr = x.chr ∨ r.chr = x.chr + 1 ∧ r.man = 16 ^ (nr - 1)) ∧
      |x.value n| - |r.value nr| < lastDigit nr x.chr / 2 ∧ |r.value nr| - |x.value n| ≤ lastDigit nr x.chr / 2 := by
  obtain ⟨d, rfl⟩ := Nat.exists_eq_add_of_lt hnr
  have hunit := lastDigit_digits nr x.chr (d + 1)
  have hbounds := round_bounds (m := x.man) (d := d + 1) (by omega) (lastDigit_pos (nr + (d + 1)) x.chr)
  have hle := round_le (d := d + 1) (by omega) hx
  have hpow : 16 ^ nr = 16 ^ (nr - 1) * 16 := by rw [← pow_succ, Nat.sub_add_cancel hpos]
  rw [← hunit, Nat.add_sub_cancel] at hbounds
  rw [Nat.add_sub_cancel] at hle
  rw [roundTo, show nr + d + 1 - nr - 1 = d by omega, show nr + d + 1 - nr = d + 1 by omega, FNum.abs_value]
  generalize (x.man + 8 * 16 ^ d) / 16 ^ (d + 1) = r at hbounds hle ⊢
  by_cases hcarry : 16 ^ nr ≤ r
  · have hr : r / 16 = 16 ^ (nr - 1) := by omega
    have hvalue : |({ neg := x.neg, chr := x.chr + 1, man := r / 16 } : FNum).value nr| = r * lastDigit nr x.chr := by
      have hadd := lastDigit_add nr x.chr 1
      rw [Nat.cast_one] at hadd
      rw [FNum.abs_value, hr, hadd, le_antisymm hle hcarry, hpow]
      push_cast
      ring
    refine ⟨_, (if_pos hcarry).trans (deliver_eq false x.neg (x.chr + 1) (r / 16)), rfl, ?_, .inr ⟨rfl, hr⟩, ?_⟩
    · change r / 16 < 16 ^ nr
      have := Nat.pow_pos (n := nr - 1) (show 0 < 16 by decide)
      omega
    · rw [hvalue]
      exact hbounds
  · refine ⟨_, (if_neg hcarry).trans (deliver_eq false x.neg x.chr r), rfl, not_le.1 hcarry, .inl rfl, ?_⟩
    rw [FNum.abs_value]
    exact hbounds

/-- A mantissa that Mul, Div or Halve takes as zero makes the exact result zero, and the others are cut off to a number. -/
theorem truncated_result {n nr : Nat} (hn : 1 ≤ n) (hnr : 1 ≤ nr) {mu : Bool} {x y : FNum} {o : FOut} {v : ℚ}
    (hx : x.man < 16 ^ n) (hy : y.man < 16 ^ n)
    (h : o = multiply n nr mu x y ∧ v = x.value n * y.value n ∨
      o = divide n mu x y ∧ nr = n ∧ y.man ≠ 0 ∧ v = x.value n / y.value n ∨
      o = halve n mu x ∧ nr = n ∧ v = x.value n / 2) :
    v = 0 ∧ o = { value := none, exc := none } ∨ v ≠ 0 ∧ ∃ r : FNum, o = r.delivered mu ∧ r.Truncates nr v := by
  have nonzero {u : ℚ} (hu : u = v) (hr : ∃ r : FNum, o = r.delivered mu ∧ r.Truncates nr u) :
      v ≠ 0 ∧ ∃ r : FNum, o = r.delivered mu ∧ r.Truncates nr v := by
    subst hu
    obtain ⟨r, ho, ht⟩ := hr
    exact ⟨right_ne_zero_of_mul ht.2.2.1.ne', r, ho, ht⟩
  have zero (m : FNum) (hm : m.man = 0) : m.value n = 0 := (m.value_eq_zero_iff n).2 hm
  obtain ⟨rfl, rfl⟩ | ⟨rfl, rfl, hy0, rfl⟩ | ⟨rfl, rfl, rfl⟩ := h
  · by_cases hz : x.man = 0 ∨ y.man = 0
    · exact .inl ⟨mul_eq_zero.2 (hz.imp (zero x) (zero y)), if_pos hz⟩
    · obtain ⟨hx0, hy0⟩ := not_or.1 hz
      exact .inr (nonzero rfl (multiply_truncates hn hnr mu hx hy hx0 hy0))
  · by_cases hx0 : x.man = 0
    · exact .inl ⟨by rw [zero x hx0, zero_div], if_pos hx0⟩
    · exact .inr (nonzero rfl (divide_truncates hn mu hx hy hx0 hy0))
  · by_cases hx0 : x.man = 0
    · exact .inl ⟨by rw [zero x hx0, zero_div], if_pos hx0⟩
    · exact .inr (nonzero rfl (halve_truncates hn mu hx hx0))

/-- Settles O56: Mul, Div and Halve cut the exact result off, Round delivers the nearest number. -/
theorem floatingProductsAreTruncatedAndRoundingIsToNearest :
    Obligations.FloatingProductsAreTruncatedAndRoundingIsToNearest := by
  refine ⟨fun n nr mu x y o v hn hx hy h => ?_, fun n nr x hn hx _ _ => ?_⟩
  · have hpos : 1 ≤ n ∧ 1 ≤ nr := by
      simp only [List.mem_cons, List.not_mem_nil, or_false, Prod.mk.injEq] at hn
      omega
    obtain ⟨hv, ho⟩ | ⟨hv, r, ho, ht⟩ := truncated_result hpos.1 hpos.2 hx hy h
    · refine ⟨fun _ => ho, fun h => absurd hv h, fun r hr => ?_⟩
      exact absurd (congrArg FOut.value (ho.symm.trans hr)) (by simp)
    · refine ⟨fun h => absurd h hv, fun _ => ⟨r, ho, ht⟩, fun r' hr => ?_⟩
      obtain ⟨rfl, hchr0, hchr⟩ := FNum.of_delivered (ho.symm.trans hr)
      exact ⟨hchr0, hchr, ht⟩
  · have hlt : 1 ≤ nr ∧ nr < n := by
      simp only [List.mem_cons, List.not_mem_nil, or_false, Prod.mk.injEq] at hn
      omega
    obtain ⟨r, ho, hneg, hman, hchr, hbelow, habove⟩ := roundTo_spec hlt.1 hlt.2 hx
    refine ⟨⟨r, ho, hneg, hman, hchr, hbelow, habove⟩, fun r' hr => ?_⟩
    obtain ⟨rfl, hchr0, hchr127⟩ := FNum.of_delivered (ho.symm.trans hr)
    refine ⟨hneg, hchr0, hchr127, hman, ?_⟩
    have hunit := lastDigit_mono nr (show x.chr ≤ r'.chr by omega)
    rw [FNum.value_eq_abs, FNum.value_eq_abs n x, hneg, ← mul_sub, abs_sign_mul, abs_le]
    exact ⟨by linarith, by linarith⟩

end Sys2Proof.Machine
end
